-- ==== Sys2Proof/Word.lean ====
section
/-! DEFINITION. The word types of the block (spec/10_state.md R11; XLEN and FLEN are decided in
spec/92_eei_decisions.md D1, D2) and its plainest arithmetic. -/

namespace Sys2Proof

/-- XLEN (00_scope R7, D1). -/
abbrev xlen : Nat := 64

/-- A `word` of the spec: XLEN bits. -/
abbrev Word := BitVec xlen

/-- A `u64` of the spec: 64 bits whatever XLEN is (the timer registers). -/
abbrev U64 := BitVec 64

/-- A floating-point register value: FLEN = 64 bits (D2). -/
abbrev FWord := BitVec 64

/-- The 16-bit header of a frame (30_encoding R61). -/
abbrev Header := BitVec 16

end Sys2Proof
end

