-- ==== Sys2Proof/Config.lean ====
section
/-! DEFINITION. What an implementation fixes: the sizes the source fixes (spec/00_scope.md R5), the OPEN
and decided parameters (R6, R7), the plain types those speak of (RegisterFile, frames, turns), and the free
values, each an opaque constant without a body. -/

namespace Sys2Proof

/-! ### Sizes the source fixes (R5) -/

/-- `N_TASKS` (R5). -/
abbrev nTasks : Nat := 2

/-- `N_GPR` (R5). -/
abbrev nGpr : Nat := 32

/-- `N_FPR` (R5). -/
abbrev nFpr : Nat := 32

/-! ### Plain types -/

/-- A RegisterFile: 67 components (10_state R12). `fpr`, `satp`, `trapSp` and `hartid` are storage only
(R13, R14); `gpr[2]` is the stack pointer (R15). -/
structure RegisterFile where
  gpr    : Vector Word nGpr
  fpr    : Vector FWord nFpr
  satp   : Word
  trapSp : Word
  hartid : Word
  deriving DecidableEq, Repr, Inhabited

/-- The inert state tag of a Task (10_state R16, R17). -/
inductive Tag where
  | off
  | running
  deriving DecidableEq, Repr, Inhabited

/-- The two ports frames arrive on (30_encoding R60). -/
inductive Port where
  | command
  | trap
  deriving DecidableEq, Repr, Inhabited

/-- A frame: a 16-bit header, then its operand words, `W0` first (30_encoding R60, R62). -/
structure Frame where
  header   : Header
  operands : List Word
  deriving DecidableEq, Repr, Inhabited

/-- One agent's turn, with what the agent brings to it (00_scope R4, 60_exceptions R148). -/
inductive Turn where
  /-- The hart's software presents a frame on the command port (R60). -/
  | command (f : Frame)
  /-- The hart's trap logic presents a frame on the trap port (R60). -/
  | trapFrame (f : Frame)
  /-- The hart raises a trap of its own; `epc` is its `pc` (60_exceptions R146, D38). -/
  | hartTrap (tval cause hartid mstatusArg : Word)
  /-- The running code changes `x[1..31]` and `pc` to any values (10_state R30, R31). -/
  | hartRun (x : Vector Word nGpr) (pc : Word)
  /-- The timer sequencer takes the timer interrupt if it is takeable (60_exceptions R144). -/
  | timer
  /-- The Clock ticks (41_timer R93). -/
  | tick
  deriving DecidableEq, Repr, Inhabited

/-! ### Parameters -/

/-- The parameters the model takes as an argument: the OPEN ones of 00_scope R6 and the two decided
switches of R7. `DIAG_MARKER` is `Config.diagMarker`. -/
structure Params where
  /-- `TIMER_BASE` (D31). -/
  timerBase : Word
  /-- `OFF_COUNTER` (D31). -/
  offCounter : Word
  /-- `OFF_COMPARE` (D31). -/
  offCompare : Word
  /-- `CONSOLE_ADDR` (D31); no operation of the block writes this address (20_memory R44). -/
  consoleAddr : Word
  /-- `TRAP_ENTRY` (D31). -/
  trapEntry : Word
  /-- `STACK_TOP` (D19). -/
  stackTop : Word
  /-- `STACK_SIZE` (D19). -/
  stackSize : Word
  /-- `QUANTUM_BOOT` (D32). -/
  quantumBoot : U64
  /-- `QUANTUM_STEADY` (D32). -/
  quantumSteady : U64
  /-- `MVENDORID_VALUE` (D30). -/
  mvendoridValue : Word
  /-- `MARCHID_VALUE` (D30). -/
  marchidValue : Word
  /-- `HARTID` (D7). -/
  hartid : Word
  /-- `INIT_TAG` (D20). -/
  initTag : Tag
  /-- `SP_INIT` (D19): a function of the task index written as its values, or `none` for the default
  formula of 44_boot R132. -/
  spInit : Option (Vector Word nTasks)
  /-- `BOOT_ADVANCE` (D8, 90_conflicts C1). -/
  bootAdvance : Bool
  /-- `CSR_READ_CLEARS` (D9). -/
  csrReadClears : Bool
  deriving DecidableEq, Repr, Inhabited

/-- FREE VALUE (log 1): the values of the OPEN parameters (00_scope R6), given by no source. -/
opaque Config.openParams : Params

/-- The free parameters with the two switches at the values of 00_scope R7. `Machine.resetParams` holds them to
the constraints of a configuration (R6; 20_memory R43, R46). -/
def Config.params : Params :=
  { Config.openParams with bootAdvance := false, csrReadClears := true }

/-- FREE VALUE (log 10): `DIAG_MARKER`, an uninterpreted total function of the snapshot (43_trap R125, D26). -/
opaque Config.diagMarker : RegisterFile → Word

/-- FREE VALUE (log 5): which agent steps, and with what, where nothing is waiting (60_exceptions R148:
the order is open; 10_state R35: the hart's values are free draws). -/
opaque Config.freeTurn : Nat → Turn

end Sys2Proof
end

