-- ==== Sys2Proof/Syntax.lean ====
section
/-! DEFINITION. The ten operations of spec/30_encoding.md R64 with their operands (R62), one constructor per
row of spec/opcode_table.json. The 8-bit argument `a` of RDCSR, WRCSR and TINIT is kept as the header
gives it; WellFormed.lean says which values select something. -/

namespace Sys2Proof

/-- One operation of the block (30_encoding R64). -/
inductive Instr where
  /-- `RDCSR <csr>` (40_hw_access R80). -/
  | rdcsr (sel : BitVec 8)
  /-- `WRCSR <csr>, <word>` (R81). -/
  | wrcsr (sel : BitVec 8) (value : Word)
  /-- `RDTIME` (R82). -/
  | rdtime
  /-- `ARM <u64>` (41_timer R90). -/
  | arm (offset : U64)
  /-- `EI` (42_interrupt_control R100). -/
  | ei
  /-- `DI` (R101). -/
  | di
  /-- `TINIT <index>, <entry>` (44_boot R131). -/
  | tinit (index : BitVec 8) (entry : Word)
  /-- `TRAP <epc>, <tval>, <cause>, <hartid>, <mstatus_arg>` (43_trap R110). -/
  | trap (epc tval cause hartid mstatusArg : Word)
  /-- `RDCMP` (R83). -/
  | rdcmp
  /-- `WRCMP <u64>` (R84). -/
  | wrcmp (value : U64)
  deriving DecidableEq, Repr

end Sys2Proof
end

