-- ==== Sys2Proof/WellFormed.lean ====
section
/-! DEFINITION. Which instructions have a legal frame: the range of the header's `a` field
(spec/30_encoding.md R64, R66, R68). -/

namespace Sys2Proof

/-- The CSR selectors that name a register: 0 to 4 (30_encoding R66, R68). -/
def selInRange (sel : BitVec 8) : Bool := decide (sel.toNat ≤ 4)

/-- The task indexes that name an entry of the Task Table (R68). -/
def indexInRange (index : BitVec 8) : Bool := decide (index.toNat < nTasks)

/-- The instruction has a legal frame (R68). A write of a read-only CSR has one (R64: "3, 4 fault"). -/
def Instr.wf : Instr → Bool
  | .rdcsr sel => selInRange sel
  | .wrcsr sel _ => selInRange sel
  | .rdtime => true
  | .arm _ => true
  | .ei => true
  | .di => true
  | .tinit index _ => indexInRange index
  | .trap _ _ _ _ _ => true
  | .rdcmp => true
  | .wrcmp _ => true

end Sys2Proof
end

