-- ==== Sys2Proof/Decode.lean ====
section
/-! DEFINITION. Frames to instructions and back (spec/30_encoding.md R61 to R69): the header's fields, the
opcode rows, a total decoder that rejects by name, the encoder, and the opcode table's own numbering of an
instruction's bits. -/

namespace Sys2Proof

/-! ### Header fields (R61) -/

/-- `op`, bits 15:12. -/
def opField (h : Header) : BitVec 4 := h.extractLsb' 12 4

/-- `a`, bits 11:4. -/
def aField (h : Header) : BitVec 8 := h.extractLsb' 4 8

/-- `z`, bits 3:0. -/
def zField (h : Header) : BitVec 4 := h.extractLsb' 0 4

/-! ### The opcode rows (R64) -/

/-- One row of the opcode map: its match and mask over the header, the number of values of `a` it admits,
the operand words of its format (R62) and the port that accepts it. -/
structure OpcodeRow where
  matchBits : Header
  mask      : Header
  aCount    : Nat
  words     : Nat
  port      : Port
  deriving DecidableEq, Repr

/-- The complete operation set, in the order of R64. A write of selector 3 or 4 has a legal frame. -/
def opcodeRows : List OpcodeRow :=
  [ ⟨0x1000, 0xF00F, 5, 0, .command⟩,       -- RDCSR
    ⟨0x2000, 0xF00F, 5, 1, .command⟩,       -- WRCSR
    ⟨0x3000, 0xFFFF, 1, 0, .command⟩,       -- RDTIME
    ⟨0x4000, 0xFFFF, 1, 1, .command⟩,       -- ARM
    ⟨0x5000, 0xFFFF, 1, 0, .command⟩,       -- EI
    ⟨0x6000, 0xFFFF, 1, 0, .command⟩,       -- DI
    ⟨0x7000, 0xF00F, nTasks, 1, .command⟩,  -- TINIT
    ⟨0x8000, 0xFFFF, 1, 5, .trap⟩,          -- TRAP
    ⟨0x9000, 0xFFFF, 1, 0, .command⟩,       -- RDCMP
    ⟨0xA000, 0xFFFF, 1, 1, .command⟩ ]      -- WRCMP

/-- The row selects the header: "`(h & mask) = match` and the field `a` is in the row's range" (R64). -/
def OpcodeRow.selects (r : OpcodeRow) (h : Header) : Bool :=
  h &&& r.mask == r.matchBits && decide ((aField h).toNat < r.aCount)

/-! ### The decoder -/

/-- Why a frame is not an instruction. -/
inductive DecodeError where
  /-- Unassigned `op`, `z ≠ 0`, `a ≠ 0` where unused, or the wrong port (R68): Fault(IllegalCommand). -/
  | illegalCommand
  /-- `a > 4` in RDCSR or WRCSR (R68): Fault(IllegalCsr). -/
  | illegalCsr
  /-- `a ≥ N_TASKS` in TINIT (R68): Fault(TableIndexRange). -/
  | tableIndexRange
  /-- A legal header with another number of operand words than its format has (R62, R63): not a frame. -/
  | notAFrame
  deriving DecidableEq, Repr

/-- An operation whose format does not use `a`: it must be 0 (R61). -/
def unusedA (a : BitVec 8) (k : Except DecodeError Instr) : Except DecodeError Instr :=
  if a = 0 then k else .error .illegalCommand

/-- A format with no operand words (N, S). -/
def noWords (ws : List Word) (i : Instr) : Except DecodeError Instr :=
  match ws with
  | [] => .ok i
  | _ => .error .notAFrame

/-- A format with one operand word (SW, D, IW). -/
def oneWord (ws : List Word) (k : Word → Instr) : Except DecodeError Instr :=
  match ws with
  | [w0] => .ok (k w0)
  | _ => .error .notAFrame

/-- A format with five operand words (T). -/
def fiveWords (ws : List Word) (k : Word → Word → Word → Word → Word → Instr) :
    Except DecodeError Instr :=
  match ws with
  | [w0, w1, w2, w3, w4] => .ok (k w0 w1 w2 w3 w4)
  | _ => .error .notAFrame

/-- The operation of code `op` with argument `a` and operand words `ws` (R62, R64, R68). -/
def decodeOp (op : Nat) (a : BitVec 8) (ws : List Word) : Except DecodeError Instr :=
  match op with
  | 0x1 => if selInRange a then noWords ws (.rdcsr a) else .error .illegalCsr
  | 0x2 => if selInRange a then oneWord ws (.wrcsr a) else .error .illegalCsr
  | 0x3 => unusedA a (noWords ws .rdtime)
  | 0x4 => unusedA a (oneWord ws .arm)
  | 0x5 => unusedA a (noWords ws .ei)
  | 0x6 => unusedA a (noWords ws .di)
  | 0x7 => if indexInRange a then oneWord ws (.tinit a) else .error .tableIndexRange
  | 0x8 => unusedA a (fiveWords ws .trap)
  | 0x9 => unusedA a (noWords ws .rdcmp)
  | 0xA => unusedA a (oneWord ws .wrcmp)
  | _ => .error .illegalCommand

/-- The port an operation code is accepted on: TRAP on the trap port only, every other on the command
port only (R64). -/
def portOfOp (op : Nat) : Port := if op = 0x8 then .trap else .command

/-- The decoder, total on any frame of either port (R63, R68). What makes a frame `IllegalCommand`
whatever its `a` is asked first (log 7). -/
def decode (p : Port) (f : Frame) : Except DecodeError Instr :=
  if zField f.header ≠ 0 then .error .illegalCommand
  else if portOfOp (opField f.header).toNat ≠ p then .error .illegalCommand
  else decodeOp (opField f.header).toNat (aField f.header) f.operands

/-! ### The encoder -/

/-- The operation code (R64). -/
def Instr.op : Instr → BitVec 4
  | .rdcsr _ => 0x1
  | .wrcsr _ _ => 0x2
  | .rdtime => 0x3
  | .arm _ => 0x4
  | .ei => 0x5
  | .di => 0x6
  | .tinit _ _ => 0x7
  | .trap _ _ _ _ _ => 0x8
  | .rdcmp => 0x9
  | .wrcmp _ => 0xA

/-- The header's argument (R61). -/
def Instr.arg : Instr → BitVec 8
  | .rdcsr sel => sel
  | .wrcsr sel _ => sel
  | .rdtime => 0
  | .arm _ => 0
  | .ei => 0
  | .di => 0
  | .tinit index _ => index
  | .trap _ _ _ _ _ => 0
  | .rdcmp => 0
  | .wrcmp _ => 0

/-- The operand words, `W0` first (R62). -/
def Instr.words : Instr → List Word
  | .rdcsr _ => []
  | .wrcsr _ value => [value]
  | .rdtime => []
  | .arm offset => [offset]
  | .ei => []
  | .di => []
  | .tinit _ entry => [entry]
  | .trap epc tval cause hartid mstatusArg => [epc, tval, cause, hartid, mstatusArg]
  | .rdcmp => []
  | .wrcmp value => [value]

/-- The header: "`(op << 12) | (a << 4)`" (R65), that is `{op, a, 0b0000}`. -/
def headerOf (op : BitVec 4) (a : BitVec 8) : Header := op ++ a ++ 0#4

/-- The frame of an instruction (R61, R62). -/
def encode (i : Instr) : Frame := ⟨headerOf i.op i.arg, i.words⟩

/-- The port that accepts the instruction's frame (R64). -/
def Instr.port : Instr → Port
  | .rdcsr _ => .command
  | .wrcsr _ _ => .command
  | .rdtime => .command
  | .arm _ => .command
  | .ei => .command
  | .di => .command
  | .tinit _ _ => .command
  | .trap _ _ _ _ _ => .trap
  | .rdcmp => .command
  | .wrcmp _ => .command

/-! ### The opcode table's numbering -/

/-- The number of operand words of an operation code (R62). -/
def wordsOfOp (op : Nat) : Nat :=
  match op with
  | 0x2 => 1
  | 0x4 => 1
  | 0x7 => 1
  | 0x8 => 5
  | 0xA => 1
  | _ => 0

/-- The frame whose bits are `w`, bit 0 the least significant of the header and operand word `k` from bit
`16 + 64 k` on; every bit from `nbits` up is 0. -/
def tableFrame (nbits w : Nat) : Frame :=
  let v := w % 2 ^ nbits
  let h : Header := BitVec.ofNat 16 v
  let n := wordsOfOp (opField h).toNat
  ⟨h, (List.range n).map fun k => BitVec.ofNat 64 (v >>> (16 + 64 * k))⟩

/-- The port that accepts the operation code of a frame. -/
def portOfFrame (f : Frame) : Port := portOfOp (opField f.header).toNat

/-- The instruction the decoder reads from the bits `w`, numbered as spec/opcode_table.json numbers them. -/
def decodeTableWord (nbits w : Nat) : Option Instr :=
  match decode (portOfFrame (tableFrame nbits w)) (tableFrame nbits w) with
  | .ok i => some i
  | .error _ => none

end Sys2Proof
end

