-- ==== Sys2Proof/Machine/Configuration.lean ====
section
/-! DEFINITION. The configuration: the timer register map (spec/20_memory.md R43), the constraints on the OPEN
parameters (R43, R46; 00_scope R6), and the parameters State.reset has, which meet them. -/

namespace Sys2Proof.Machine

/-! ### Timer registers (20_memory R43) -/

/-- The two memory-mapped timer registers. -/
inductive TimerReg where
  | counter
  | compare
  deriving DecidableEq, Repr

/-- The physical address of a timer register (R43): the sum modulo 2^64 (DEDUCED, log 15). -/
def timerAddr (p : Params) : TimerReg → Word
  | .counter => p.timerBase + p.offCounter
  | .compare => p.timerBase + p.offCompare

/-- `a` is one of the 8 bytes of a timer register (R43, R46). -/
def onTimer (p : Params) (a : Word) : Bool :=
  decide ((a - timerAddr p .counter).toNat < 8) || decide ((a - timerAddr p .compare).toNat < 8)

/-! ### The constraints -/

/-- The constraints a configuration must meet: both timer addresses multiples of 8 and different offsets
(20_memory R43, R46), the console port apart from the timer registers (R40: no space overlaps another; refusing it
here is DESIGN CHOICE, log 22), different quanta (00_scope R6, D32; refusing them here is DESIGN CHOICE, log 14). -/
def configAccepted (p : Params) : Bool :=
  decide ((timerAddr p .counter).toNat % 8 = 0) && decide ((timerAddr p .compare).toNat % 8 = 0) &&
    decide (p.offCounter ≠ p.offCompare) && !onTimer p p.consoleAddr &&
    decide (p.quantumBoot ≠ p.quantumSteady)

/-! ### The parameters at reset -/

/-- `a` rounded down to a multiple of 8. -/
def alignAddr (a : Word) : Word := (a >>> 3) <<< 3

/-- `p` with the timer registers at two different multiples of 8: as they are where they are so. -/
def acceptTimer (p : Params) : Params :=
  let counter := alignAddr (timerAddr p .counter)
  let compare := alignAddr (timerAddr p .compare)
  { p with
    offCounter := counter - p.timerBase
    offCompare := (if compare = counter then compare + 8 else compare) - p.timerBase }

/-- The console port as it is where it is apart from the timer registers, else the same byte of the first 8 bytes
above that are. -/
def acceptConsole (p : Params) : Word :=
  if onTimer p p.consoleAddr then
    if onTimer p (p.consoleAddr + 8) then p.consoleAddr + 16 else p.consoleAddr + 8
  else p.consoleAddr

/-- `p` with the two offsets, the console port and the steady quantum changed where, and only where, a constraint
asks for it: it maps onto the accepted configurations and keeps each of them as it is (log 1, log 14, log 22). -/
def acceptParams (p : Params) : Params :=
  { acceptTimer p with
    consoleAddr := acceptConsole (acceptTimer p)
    quantumSteady := if p.quantumSteady = p.quantumBoot then p.quantumBoot + 1 else p.quantumSteady }

/-- The parameters of `State.reset`: the free ones, held to the constraints, so that they are any accepted
configuration with the two switches of R7, and nothing more is known of them (00_scope R6, 20_memory R40, R43, R46; log 1). -/
def resetParams : Params := acceptParams Config.params

end Sys2Proof.Machine
end

