-- ==== Sys2Proof/Machine/State.lean ====
section
/-! DEFINITION. The state of the block and of what it is connected to (spec/10_state.md R10), as plain data,
the reasons a step can stop, and the state right after reset (R36). -/

namespace Sys2Proof.Machine

/-- A Task of the Task Table (10_state R16). `entry` and `tag` are written at creation and read by no
operation (R17). -/
structure Task where
  pc    : Word
  rf    : RegisterFile
  entry : Word
  tag   : Tag
  deriving DecidableEq, Repr, Inhabited

/-- The sequencer phase (10_state R28). -/
inductive Phase where
  | run
  | fatal
  deriving DecidableEq, Repr, Inhabited

/-- The closed list of model faults (60_exceptions R160). -/
inductive ModelFault where
  /-- Frame decode: unassigned `op`, `z ≠ 0`, `a ≠ 0` where unused, wrong port (30_encoding R68). -/
  | illegalCommand
  /-- RDCSR, WRCSR: selector greater than 4. -/
  | illegalCsr
  /-- WRCSR: selector 3 or 4 (40_hw_access R81). -/
  | readOnlyCsrWrite
  /-- TINIT: index not less than `N_TASKS` (44_boot R131). -/
  | tableIndexRange
  /-- TINIT: `init = 1` or `mstatus[3] = 1` (R133). -/
  | tableWriteAfterBoot
  /-- TRAP: `mtvec ≠ TRAP_ENTRY` (43_trap R110). -/
  | trapVectorNotInstalled
  /-- ARM and the re-arm of TRAP: `mtime + offset ≥ 2^64` (41_timer R91). -/
  | armOverflow
  /-- Clock tick: `mtime = 2^64 - 1` (R93). -/
  | counterOverflow
  deriving DecidableEq, Repr

/-- A diagnostic event; the only one is `Fatal(addr, marker)` (10_state R34). -/
structure DiagEvent where
  addr   : Word
  marker : Word
  deriving DecidableEq, Repr, Inhabited

/-- Why a step stops with a fault. -/
inductive Fault where
  /-- Raised by every operation and by `step` in a state whose fault latch holds `f`: "a model may either
  stop there or keep stepping" (10_state R29), and such a state stops all progress of the block
  (70 R186). SAFE: no claim is made about what follows. -/
  | latched (f : ModelFault)
  deriving DecidableEq, Repr

/-- Why a step is refused. -/
inductive Refusal where
  /-- Raised by `exec` for an instruction without a meaning (none is left). SAFE. -/
  | notModelled (mnemonic : String)
  /-- Raised by every operation in phase FATAL, where it has no step (00_scope R9, 10_state R28,
  40_hw_access R85); `step` lets the turn pass there instead. SAFE. -/
  | notEnabled
  /-- Raised by `step` for a legal header with a wrong number of operand words, which no port can carry
  (30_encoding R62, R63; log 8). SAFE. -/
  | notAFrame
  deriving DecidableEq, Repr

/-- The state. -/
structure State where
  /-- The Task Table `TT` (10_state R18). -/
  tt : Vector Task nTasks
  /-- The Scheduler Cursor `cur`, with its range invariant in its type (R19). -/
  cur : Fin nTasks
  /-- The Bootstrap Flag `init` (R20). -/
  init : Bool
  /-- The snapshot buffer `SNAP` (R33). -/
  snap : RegisterFile
  /-- Machine status (R22). -/
  mstatus : Word
  /-- Machine interrupt enable (R23). -/
  mie : Word
  /-- Trap vector (R24). -/
  mtvec : Word
  /-- Vendor ID, read-only (R25). -/
  mvendorid : Word
  /-- Architecture ID, read-only (R25). -/
  marchid : Word
  /-- The free-running counter (R27). -/
  mtime : U64
  /-- The timer compare register (R27). -/
  mtimecmp : U64
  /-- The sequencer phase (R28). -/
  phase : Phase
  /-- The fault latch (R29). -/
  fault : Option ModelFault
  /-- The hart's live general registers (R30); read and write them by `readX` and `writeX`. -/
  x : Vector Word nGpr
  /-- The hart's live program counter (R31). -/
  pc : Word
  /-- The diagnostic stream, oldest event first (R34). -/
  diag : List DiagEvent
  /-- MODEL'S OWN (log 6): what the last frame performed on the command port returned (30_encoding R67). -/
  cmdResp : Option Word
  /-- MODEL'S OWN (log 6): what the last trap sequence returned (R67). -/
  trapResp : Option Word
  /-- MODEL'S OWN (log 5): the turns waiting, the next one first. -/
  turns : List Turn
  /-- MODEL'S OWN (log 5): how many free turns have been drawn. -/
  draws : Nat
  /-- MODEL'S OWN (log 1): the configuration argument (00_scope R5 to R7); no operation writes it. -/
  params : Params
  deriving DecidableEq, Repr, Inhabited

/-- A RegisterFile of zeros (log 2). -/
def zeroRegisterFile : RegisterFile :=
  { gpr := Vector.replicate nGpr 0, fpr := Vector.replicate nFpr 0, satp := 0, trapSp := 0, hartid := 0 }

/-- A Task of zeros (log 2). -/
def zeroTask : Task := { pc := 0, rf := zeroRegisterFile, entry := 0, tag := .off }

/-- The state right after reset (10_state R36, 70 R170, R172). `cur`, `init`, `phase`, `fault`, `diag`,
`x[0]`, the two enable bits and the two identification registers are the spec's values; every component the
spec leaves unspecified is the zero named in log 2, the parameters are free within their constraints (log 1),
and `State.resetWith` (Machine/Reset.lean) gives
the reset state for every value of them. -/
def State.reset : State :=
  { tt := Vector.replicate nTasks zeroTask
    cur := 0
    init := false
    snap := zeroRegisterFile
    mstatus := 0
    mie := 0
    mtvec := 0
    mvendorid := resetParams.mvendoridValue
    marchid := resetParams.marchidValue
    mtime := 0
    mtimecmp := 0
    phase := .run
    fault := none
    x := Vector.replicate nGpr 0
    pc := 0
    diag := []
    cmdResp := none
    trapResp := none
    turns := []
    draws := 0
    params := resetParams }

end Sys2Proof.Machine
end

