-- ==== Sys2Proof/Machine/Operands.lean ====
section
/-! DEFINITION. The operand forms: CSR selectors (spec/30_encoding.md R66), task indexes (R68), the hart's
general registers (10_state R30), the timer registers and their addresses (20_memory R43, R47). -/

namespace Sys2Proof.Machine

/-! ### Control and status registers (10_state R21) -/

/-- The five CSRs. -/
inductive Csr where
  | mstatus
  | mie
  | mtvec
  | mvendorid
  | marchid
  deriving DecidableEq, Repr

/-- The register a selector names; 5 to 255 name none (30_encoding R66, 20_memory R41). -/
def csrOfSel (sel : BitVec 8) : Option Csr :=
  match sel.toNat with
  | 0 => some .mstatus
  | 1 => some .mie
  | 2 => some .mtvec
  | 3 => some .mvendorid
  | 4 => some .marchid
  | _ => none

/-- Read/write or read-only (10_state R21). -/
def csrWritable : Csr → Bool
  | .mstatus => true
  | .mie => true
  | .mtvec => true
  | .mvendorid => false
  | .marchid => false

/-- `CSR[sel]`. -/
def readCsr (c : Csr) (s : State) : Word :=
  match c with
  | .mstatus => s.mstatus
  | .mie => s.mie
  | .mtvec => s.mtvec
  | .mvendorid => s.mvendorid
  | .marchid => s.marchid

/-- `CSR[sel] <- v`, held exactly (10_state R26); without effect on a read-only register (R25,
90_conflicts C2). -/
def writeCsr (c : Csr) (v : Word) (s : State) : State :=
  match c with
  | .mstatus => { s with mstatus := v }
  | .mie => { s with mie := v }
  | .mtvec => { s with mtvec := v }
  | .mvendorid => s
  | .marchid => s

/-! ### Task indexes -/

/-- The entry of the Task Table an index names (44_boot R131). -/
def taskOfIndex (index : BitVec 8) : Option (Fin nTasks) :=
  if h : index.toNat < nTasks then some ⟨index.toNat, h⟩ else none

/-- `SP_INDEX`: component `gpr[2]` is the stack pointer (00_scope R5, 10_state R15). -/
def spIndex : Fin nGpr := 2

/-! ### The hart's general registers (10_state R30) -/

/-- All 32 registers as the hart port shows them: `x[0]` always reads as 0. -/
def readAllX (s : State) : Vector Word nGpr := s.x.set 0 0

/-- `x[i]`. -/
def readX (s : State) (i : Fin nGpr) : Word := (readAllX s)[i]

/-- `x[i] <- v[i]` for every `i`; the write to `x[0]` is discarded. -/
def writeAllX (v : Vector Word nGpr) (s : State) : State := { s with x := v.set 0 s.x[0] }

/-! ### Timer registers (20_memory R43, R47) -/

/-- The timer register at an address, if there is one (R43). -/
def timerRegAt (p : Params) (addr : Word) : Option TimerReg :=
  if addr = timerAddr p .counter then some .counter
  else if addr = timerAddr p .compare then some .compare
  else none

/-- The value of a timer register: one atomic 64-bit access (R48). -/
def readTimer (r : TimerReg) (s : State) : U64 :=
  match r with
  | .counter => s.mtime
  | .compare => s.mtimecmp

/-- `mtimecmp <- v`: one atomic 64-bit access, the only write of a timer register there is (R47). -/
def writeCompare (v : U64) (s : State) : State := { s with mtimecmp := v }

/-- `MemRead(addr, n)`: defined for the two timer registers and 8 bytes only (R47). -/
def memRead (addr : Word) (n : Nat) (s : State) : Option U64 :=
  if n = 8 then (timerRegAt s.params addr).map fun r => readTimer r s else none

/-- `MemWrite(addr, n, v)`: defined for the compare register and 8 bytes only (R47). -/
def memWrite (addr : Word) (n : Nat) (v : U64) (s : State) : Option State :=
  if n = 8 ∧ timerRegAt s.params addr = some .compare then some (writeCompare v s) else none

end Sys2Proof.Machine
end

