-- ==== Sys2Proof/Machine/Flags.lean ====
section
/-! DEFINITION. The flags of the block: the two enable bits (spec/10_state.md R22, R23; 40_hw_access R86), the
pending condition (41_timer R94), takeable (60_exceptions R145), and the decode of a cause word (43_trap R113). -/

namespace Sys2Proof.Machine

/-- `MIE_BIT` (00_scope R7, D6). -/
def mieBit : Nat := 3

/-- `MTIE_BIT` (00_scope R7, D6). -/
def mtieBit : Nat := 7

/-- `v` with bit `b` set, every other bit kept. -/
def setBit (v : Word) (b : Nat) : Word := v ||| BitVec.twoPow xlen b

/-- `v` with bit `b` clear, every other bit kept. -/
def clearBit (v : Word) (b : Nat) : Word := v &&& ~~~(BitVec.twoPow xlen b)

/-- `CsrSetBit(sel, b)`: no clearing side effect (40_hw_access R86). -/
def csrSetBit (c : Csr) (b : Nat) (s : State) : State := writeCsr c (setBit (readCsr c s) b) s

/-- `CsrClearBit(sel, b)`: no clearing side effect (R86). -/
def csrClearBit (c : Csr) (b : Nat) (s : State) : State := writeCsr c (clearBit (readCsr c s) b) s

/-- `mstatus.MIE`. -/
def State.mieSet (s : State) : Bool := s.mstatus.getLsbD mieBit

/-- `mie.MTIE`. -/
def State.mtieSet (s : State) : Bool := s.mie.getLsbD mtieBit

/-- The effect of EI: both enable bits set, the trap entry address installed (42_interrupt_control R100). -/
def enableInterrupts (s : State) : State :=
  writeCsr .mtvec s.params.trapEntry (csrSetBit .mie mtieBit (csrSetBit .mstatus mieBit s))

/-- The effect of DI: both enable bits clear, the trap vector untouched (R101). -/
def disableInterrupts (s : State) : State :=
  csrClearBit .mie mtieBit (csrClearBit .mstatus mieBit s)

/-- `MTIP = (mtime ≥ mtimecmp)`, unsigned (41_timer R94). -/
def State.mtip (s : State) : Bool := decide (s.mtimecmp.toNat ≤ s.mtime.toNat)

/-- The timer interrupt is takeable (60_exceptions R145). -/
def State.takeable (s : State) : Bool :=
  decide (s.phase = .run) && s.mtip && s.mieSet && s.mtieSet

/-- `CAUSE_MASK_BITS` (00_scope R5). -/
def causeMaskBits : Nat := 9

/-- `TIMER_CODE` (00_scope R5). -/
def timerCode : Nat := 7

/-- The cause word is a timer cause: `cause[8:0] = 7`, every higher bit ignored (43_trap R113, R114). -/
def isTimerCause (cause : Word) : Bool :=
  cause.extractLsb' 0 causeMaskBits == BitVec.ofNat causeMaskBits timerCode

/-- The cause word the timer sequencer presents: `INT_BIT = XLEN - 1` set and code 7 (60_exceptions R144). -/
def timerCauseWord : Word := BitVec.twoPow xlen (xlen - 1) ||| BitVec.ofNat xlen timerCode

end Sys2Proof.Machine
end

