-- ==== Sys2Proof/Machine/Ops.lean ====
section
/-! DEFINITION. The shared operations: performing an operation and committing its result (spec/00_scope.md R9,
40_hw_access R85), the responses (30_encoding R67), programming a deadline (41_timer R90), taking a trap and
returning from one (43_trap R111, R112, R120 to R123), the fatal path (R124, R125). -/

namespace Sys2Proof.Machine

/-- The three outcomes of a step. -/
abbrev Out := Host.Outcome State Fault Refusal

/-- What an enabled operation does: the changed state, or a model fault (00_scope R9). -/
abbrev Result := Except ModelFault State

/-- `raise Fault(f)`: the fault latch records the name, nothing else changes (R9, 10_state R29). -/
def latch (f : ModelFault) (s : State) : State := { s with fault := some f }

/-- The committed state: what the operation changed, or the latched fault (R9). -/
def commit (s : State) (r : Result) : State :=
  match r with
  | .ok t => t
  | .error f => latch f s

/-- Perform one operation: not at all once a fault is latched (10_state R29, 70 R186), no step in FATAL
(40_hw_access R85, 43_trap R110), and otherwise one atomic step. -/
def perform (op : State → Result) (s : State) : Out :=
  match s.fault with
  | some f => .fault (.latched f)
  | none =>
    match s.phase with
    | .fatal => .refused .notEnabled
    | .run => .next (commit s (op s))

/-- What a command returns on the command response port: a value, or nothing (30_encoding R67). -/
def respond (v : Option Word) (s : State) : State := { s with cmdResp := v }

/-- What a trap sequence returns on the trap response port (R67). -/
def respondTrap (v : Option Word) (s : State) : State := { s with trapResp := v }

/-- The exact sum, or nothing where it does not fit in 64 bits (41_timer R91). -/
def exactSum (a b : U64) : Option U64 :=
  if a.toNat + b.toNat < 2 ^ 64 then some (a + b) else none

/-- Program the next deadline relative to now: one read of the counter, one write of the compare register
(41_timer R90). -/
def armTimer (offset : U64) (s : State) : Result :=
  match exactSum (readTimer .counter s) offset with
  | some deadline => .ok (writeCompare deadline s)
  | none => .error .armOverflow

/-- Stage 1, capture: `SNAP.gpr[i] <- x[i]` for every `i`, nothing else of SNAP (43_trap R111). -/
def capture (s : State) : State := { s with snap := { s.snap with gpr := readAllX s } }

/-- TAKING A TRAP: accepted only when `mtvec = TRAP_ENTRY`, then capture and disable, for every cause
(43_trap R110 to R112, 60_exceptions R149). -/
def takeTrap (s : State) : Result :=
  if s.mtvec = s.params.trapEntry then .ok (disableInterrupts (capture s))
  else .error .trapVectorNotInstalled

/-- Stage 10, restore: `x[i] <- SNAP.gpr[i]` for every `i` (R122). -/
def restore (s : State) : State := writeAllX s.snap.gpr s

/-- Stage 11, jump and return: `pc <- resume`, and the response is `resume` (R123). -/
def jump (resume : Word) (s : State) : State := respondTrap (some resume) { s with pc := resume }

/-- RETURNING FROM A TRAP: re-arm, enable, restore, jump (43_trap R120 to R123, 60_exceptions R150). -/
def trapReturn (resume : Word) (s : State) : Result :=
  match armTimer s.params.quantumSteady s with
  | .ok t => .ok (jump resume (restore (enableInterrupts t)))
  | .error f => .error f

/-- `emit DIAG(Fatal(addr, marker))`, with the marker of the snapshot (10_state R34, 43_trap R125). -/
def emitFatal (addr : Word) (s : State) : State :=
  { s with diag := s.diag ++ [⟨addr, Config.diagMarker s.snap⟩] }

/-- The fatal path: one diagnostic event, then the absorbing phase; nothing is returned (43_trap R124, R125). -/
def enterFatal (epc : Word) (s : State) : State :=
  respondTrap none { emitFatal epc s with phase := .fatal }

end Sys2Proof.Machine
end

