-- ==== Sys2Proof/Machine/Boot.lean ====
section
/-! DEFINITION. Boot-time initialization (spec/44_boot.md): TINIT, the initial stack pointer, the named
sequences of 30_encoding R71. -/

namespace Sys2Proof.Machine

/-- The default of `SP_INIT`: `(STACK_TOP - (i+1) * STACK_SIZE) mod 2^XLEN` (R132). -/
def spInitDefault (stackTop stackSize : Word) (i : Fin nTasks) : Word :=
  stackTop - BitVec.ofNat xlen (i.val + 1) * stackSize

/-- `SP_INIT(i)` (00_scope R6, D19). -/
def spInit (p : Params) (i : Fin nTasks) : Word :=
  match p.spInit with
  | some v => v[i]
  | none => spInitDefault p.stackTop p.stackSize i

/-- `TINIT` writes these four components of the Task and no other (R131). -/
def createTask (p : Params) (i : Fin nTasks) (entry : Word) (t : Task) : Task :=
  { pc := entry
    rf := { t.rf with gpr := t.rf.gpr.set spIndex (spInit p i) }
    entry := entry
    tag := p.initTag }

/-- TINIT (R131, R133). -/
def tinitOp (index : BitVec 8) (entry : Word) (s : State) : Result :=
  match taskOfIndex index with
  | none => .error .tableIndexRange
  | some i =>
    if s.init || s.mieSet then .error .tableWriteAfterBoot
    else .ok (respond none { s with tt := s.tt.set i (createTask s.params i entry s.tt[i]) })

/-- TINIT (R131). -/
def execTinit (index : BitVec 8) (entry : Word) (s : State) : Out := perform (tinitOp index entry) s

/-! ### Named sequences (30_encoding R71) -/

/-- `BOOT e0, …`: every TINIT, then `ARM QUANTUM_BOOT`, then `EI` (R134). -/
def bootSequence (p : Params) (entries : Vector Word nTasks) : List Instr :=
  (List.ofFn fun i : Fin nTasks => Instr.tinit (BitVec.ofNat 8 i.val) entries[i]) ++
    [.arm p.quantumBoot, .ei]

/-- `CRITICAL <ops>`: `DI`, the operations, `EI`. -/
def criticalSequence (ops : List Instr) : List Instr := .di :: (ops ++ [.ei])

/-- `CURRENT_TIME`. -/
def currentTimeSequence : List Instr := [.rdtime]

/-- `ARM_TIMER off`. -/
def armTimerSequence (offset : U64) : List Instr := [.arm offset]

end Sys2Proof.Machine
end

