-- ==== Sys2Proof/Machine/HwAccess.lean ====
section
/-! DEFINITION. The hardware access primitives (spec/40_hw_access.md): RDCSR, WRCSR, RDTIME, RDCMP, WRCMP. -/

namespace Sys2Proof.Machine

/-- The clearing side effect of a CSR read (R80): the register becomes 0 when `CSR_READ_CLEARS`; a read-only
register cannot be cleared (90_conflicts C2). -/
def readClear (c : Csr) (s : State) : State :=
  if s.params.csrReadClears then writeCsr c 0 s else s

/-- RDCSR (R80). -/
def rdcsrOp (sel : BitVec 8) (s : State) : Result :=
  match csrOfSel sel with
  | none => .error .illegalCsr
  | some c => .ok (respond (some (readCsr c s)) (readClear c s))

/-- RDCSR (R80). -/
def execRdcsr (sel : BitVec 8) (s : State) : Out := perform (rdcsrOp sel) s

/-- WRCSR (R81). -/
def wrcsrOp (sel : BitVec 8) (value : Word) (s : State) : Result :=
  match csrOfSel sel with
  | none => .error .illegalCsr
  | some c =>
    if csrWritable c then .ok (respond none (writeCsr c value s)) else .error .readOnlyCsrWrite

/-- WRCSR (R81). -/
def execWrcsr (sel : BitVec 8) (value : Word) (s : State) : Out := perform (wrcsrOp sel value) s

/-- RDTIME: `MemRead(TIMER_BASE + OFF_COUNTER, 8)` (R82). -/
def rdtimeOp (s : State) : Result := .ok (respond (some (readTimer .counter s)) s)

/-- RDTIME (R82). -/
def execRdtime (s : State) : Out := perform rdtimeOp s

/-- RDCMP: `MemRead(TIMER_BASE + OFF_COMPARE, 8)` (R83). -/
def rdcmpOp (s : State) : Result := .ok (respond (some (readTimer .compare s)) s)

/-- RDCMP (R83). -/
def execRdcmp (s : State) : Out := perform rdcmpOp s

/-- WRCMP: `MemWrite(TIMER_BASE + OFF_COMPARE, 8, D0)` (R84). -/
def wrcmpOp (value : U64) (s : State) : Result := .ok (respond none (writeCompare value s))

/-- WRCMP (R84). -/
def execWrcmp (value : U64) (s : State) : Out := perform (wrcmpOp value) s

end Sys2Proof.Machine
end

