-- ==== Sys2Proof/Machine/IntControl.lean ====
section
/-! DEFINITION. Interrupt control (spec/42_interrupt_control.md): EI, DI. -/

namespace Sys2Proof.Machine

/-- EI (R100, R102). -/
def eiOp (s : State) : Result := .ok (respond none (enableInterrupts s))

/-- EI (R100). -/
def execEi (s : State) : Out := perform eiOp s

/-- DI (R101, R102). -/
def diOp (s : State) : Result := .ok (respond none (disableInterrupts s))

/-- DI (R101). -/
def execDi (s : State) : Out := perform diOp s

end Sys2Proof.Machine
end

