-- ==== Sys2Proof/Machine/Timer.lean ====
section
/-! DEFINITION. The timer driver and the Clock (spec/41_timer.md): ARM and the tick. -/

namespace Sys2Proof.Machine

/-- ARM (R90, R91). -/
def armOp (offset : U64) (s : State) : Result :=
  match armTimer offset s with
  | .ok t => .ok (respond none t)
  | .error f => .error f

/-- ARM (R90). -/
def execArm (offset : U64) (s : State) : Out := perform (armOp offset) s

/-- The Clock's step: `mtime <- mtime + 1`, or CounterOverflow at `2^64 - 1` (R93). -/
def tickOp (s : State) : Result :=
  if s.mtime = BitVec.allOnes 64 then .error .counterOverflow
  else .ok { s with mtime := s.mtime + 1 }

end Sys2Proof.Machine
end

