-- ==== Sys2Proof/Machine/Trap.lean ====
section
/-! DEFINITION. The trap sequence (spec/43_trap.md): the stages between taking the trap and returning from it,
and TRAP. -/

namespace Sys2Proof.Machine

/-- The cursor's next value: `(cur + 1) mod N_TASKS` (R117). -/
def nextCursor (c : Fin nTasks) : Fin nTasks :=
  ⟨(c.val + 1) % nTasks, Nat.mod_lt _ (by decide)⟩

/-- Stage 4a, save: all 67 components of SNAP and `epc` into `TT[cur]`; `entry` and `tag` are kept (R115). -/
def save (epc : Word) (s : State) : State :=
  { s with tt := s.tt.set s.cur { s.tt[s.cur] with rf := s.snap, pc := epc } }

/-- Stage 5, rotate (R117). -/
def rotate (s : State) : State := { s with cur := nextCursor s.cur }

/-- Stage 4b, bootstrap: set the flag, save nothing; the cursor moves only under `BOOT_ADVANCE` (R116). -/
def bootstrap (s : State) : State :=
  if s.params.bootAdvance then rotate { s with init := true } else { s with init := true }

/-- Stage 6, select: the resume address is `TT[cur].pc` (R118). -/
def select (s : State) : Word := s.tt[s.cur].pc

/-- Stage 7, load: `SNAP <- TT[cur].rf`, all 67 components (R119). -/
def load (s : State) : State := { s with snap := s.tt[s.cur].rf }

/-- Stages 4 and 5: save and rotate, or bootstrap (R115 to R117). -/
def switchTask (epc : Word) (s : State) : State :=
  if s.init then rotate (save epc s) else bootstrap s

/-- TRAP (R110). `tval`, `hartid` and `mstatus_arg` are received and used by no stage (R126). -/
def trapOp (epc cause : Word) (s : State) : Result :=
  match takeTrap s with
  | .error f => .error f
  | .ok t =>
    if isTimerCause cause then
      trapReturn (select (switchTask epc t)) (load (switchTask epc t))
    else .ok (enterFatal epc t)

/-- TRAP (R110). -/
def execTrap (epc _tval cause _hartid _mstatusArg : Word) (s : State) : Out :=
  perform (trapOp epc cause) s

end Sys2Proof.Machine
end

