-- ==== Sys2Proof/Machine/Dispatch.lean ====
section
/-! DEFINITION. One arm per instruction. -/

namespace Sys2Proof.Machine

def exec (i : Instr) (s : State) : Host.Outcome State Fault Refusal :=
  match i with
  | .rdcsr sel => Sys2Proof.Machine.execRdcsr sel s
  | .wrcsr sel value => Sys2Proof.Machine.execWrcsr sel value s
  | .rdtime => Sys2Proof.Machine.execRdtime s
  | .arm offset => Sys2Proof.Machine.execArm offset s
  | .ei => Sys2Proof.Machine.execEi s
  | .di => Sys2Proof.Machine.execDi s
  | .tinit index entry => Sys2Proof.Machine.execTinit index entry s
  | .trap epc tval cause hartid mstatusArg => Sys2Proof.Machine.execTrap epc tval cause hartid mstatusArg s
  | .rdcmp => Sys2Proof.Machine.execRdcmp s
  | .wrcmp value => Sys2Proof.Machine.execWrcmp value s

end Sys2Proof.Machine
end

