-- ==== Sys2Proof/Machine/Agents.lean ====
section
/-! DEFINITION. The agents' turns (spec/00_scope.md R4): a frame on a port, the hart's own execution and traps,
the timer sequencer, the Clock; and whose turn is next (60_exceptions R148). -/

namespace Sys2Proof.Machine

/-- The model fault an illegal frame raises (30_encoding R68); none where there is no frame at all. -/
def faultOfDecode : DecodeError → Option ModelFault
  | .illegalCommand => some .illegalCommand
  | .illegalCsr => some .illegalCsr
  | .tableIndexRange => some .tableIndexRange
  | .notAFrame => none

/-- The turn of an agent that is not enabled: nothing happens (00_scope R9; log 19). -/
def passTurn (s : State) : Out := .next s

/-- A frame is presented on a port. In FATAL it is never performed (10_state R28); in RUN it is decoded, and
performed or faulted (30_encoding R60, R68). -/
def deliver (p : Port) (f : Frame) (s : State) : Out :=
  match s.phase with
  | .fatal => passTurn s
  | .run =>
    match decode p f with
    | .ok i => exec i s
    | .error e =>
      match faultOfDecode e with
      | some m => .next (latch m s)
      | none => .refused .notAFrame

/-- The hart raises a trap with `epc = hart.pc` (60_exceptions R146, D38); in FATAL it takes no step. -/
def hartRaises (tval cause hartid mstatusArg : Word) (s : State) : Out :=
  match s.phase with
  | .fatal => passTurn s
  | .run => exec (.trap s.pc tval cause hartid mstatusArg) s

/-- The running code's own execution: `x[1..31]` and `pc` to any values (10_state R30, R31); in FATAL the hart
takes no step. -/
def hartRuns (x : Vector Word nGpr) (pc : Word) (s : State) : Out :=
  match s.phase with
  | .fatal => passTurn s
  | .run => .next { writeAllX x s with pc := pc }

/-- The trap the timer sequencer starts (60_exceptions R144). -/
def timerTrap (s : State) : Instr := .trap s.pc 0 timerCauseWord s.params.hartid s.mstatus

/-- The timer sequencer's turn: it takes the interrupt when it is takeable (R144, R145). -/
def sequencerTurn (s : State) : Out :=
  if s.takeable then exec (timerTrap s) s else passTurn s

/-- One agent's turn. -/
def runTurn (t : Turn) (s : State) : Out :=
  match t with
  | .command f => deliver .command f s
  | .trapFrame f => deliver .trap f s
  | .hartTrap tval cause hartid mstatusArg => hartRaises tval cause hartid mstatusArg s
  | .hartRun x pc => hartRuns x pc s
  | .timer => sequencerTurn s
  | .tick => .next (commit s (tickOp s))

/-- Whose turn is next: the first waiting, or a free turn where none waits (log 5). -/
def nextTurn (s : State) : Turn :=
  match s.turns with
  | t :: _ => t
  | [] => Config.freeTurn s.draws

/-- The state with that turn taken from the ones waiting, or drawn. -/
def takeTurn (s : State) : State :=
  match s.turns with
  | _ :: rest => { s with turns := rest }
  | [] => { s with draws := s.draws + 1 }

/-- The turn that presents a frame on the port that accepts its operation code. -/
def turnOfFrame (f : Frame) : Turn :=
  match portOfFrame f with
  | .command => .command f
  | .trap => .trapFrame f

end Sys2Proof.Machine
end

