-- ==== Sys2Proof/Machine/Step.lean ====
section
/-! DEFINITION. One step of the machine: the next agent's turn (spec/00_scope.md R4, R9), and placing an
instruction where the next step takes it from. -/

namespace Sys2Proof.Machine

/-- One step. It stops in a state whose fault latch is set (10_state R29, 70 R186; log 3). -/
def step (s : State) : Host.Outcome State Fault Refusal :=
  match s.fault with
  | some f => .fault (.latched f)
  | none => runTurn (nextTurn s) (takeTurn s)

/-- `s` with the frame of the bits `w` (numbered as spec/opcode_table.json numbers them) presented next, on
the port that accepts its operation code (log 16). -/
def State.withFetchWord (s : State) (nbits w : Nat) : State :=
  { s with turns := turnOfFrame (tableFrame nbits w) :: s.turns }

end Sys2Proof.Machine
end

