-- ==== Sys2Proof/Machine/Reset.lean ====
section
/-! DEFINITION. Reset for every value of what spec/10_state.md R36 leaves unspecified and for every accepted
configuration (log 2, log 14). -/

namespace Sys2Proof.Machine

/-- The arbitrary values a reset draws, one for each piece of state that R36 marks "unspecified". -/
structure ResetDraw where
  tt       : Vector Task nTasks
  snap     : RegisterFile
  mstatus  : Word
  mie      : Word
  mtvec    : Word
  mtime    : U64
  mtimecmp : U64
  x        : Vector Word nGpr
  pc       : Word
  deriving DecidableEq, Repr

/-- The reset state with parameters `p` and draws `d`: the specified bits and registers as R36 says, the rest
as drawn. -/
def State.resetWith (p : Params) (d : ResetDraw) : State :=
  { State.reset with
    tt := d.tt
    snap := d.snap
    mstatus := clearBit d.mstatus mieBit
    mie := clearBit d.mie mtieBit
    mtvec := d.mtvec
    mvendorid := p.mvendoridValue
    marchid := p.marchidValue
    mtime := d.mtime
    mtimecmp := d.mtimecmp
    x := d.x.set 0 0
    pc := d.pc
    params := p }

/-- The draw `State.reset` names: zeros (log 2). -/
def ResetDraw.zero : ResetDraw :=
  { tt := Vector.replicate nTasks zeroTask
    snap := zeroRegisterFile
    mstatus := 0
    mie := 0
    mtvec := 0
    mtime := 0
    mtimecmp := 0
    x := Vector.replicate nGpr 0
    pc := 0 }

/-- Configuring the model: a configuration that does not meet the constraints is refused before any run
(20_memory R46: "refused when the model is configured"). -/
def configure (p : Params) (d : ResetDraw) : Option State :=
  if configAccepted p then some (State.resetWith p d) else none

end Sys2Proof.Machine
end

