-- ==== Sys2Proof/Safety.lean ====
section
/-! DEFINITION. The terms claims are stated in: good and enabled states, the machine's invariant, runs of
instructions, runs of steps. -/

namespace Sys2Proof.Machine

/-- No model fault is latched: "every claim takes `fault = none` as a premise" (spec/10_state.md R29). -/
abbrev State.good (s : State) : Prop := s.fault = none

/-- An operation is enabled: phase RUN (40_hw_access R85, 43_trap R110) in a good state. -/
abbrev State.enabled (s : State) : Prop := s.good ∧ s.phase = .run

/-- The components of a RegisterFile that are storage only are equal (10_state R13, R14). -/
def sameStorage (a b : RegisterFile) : Prop :=
  a.fpr = b.fpr ∧ a.satp = b.satp ∧ a.trapSp = b.trapSp ∧ a.hartid = b.hartid

/-- The invariant every step keeps. -/
structure State.Inv (s : State) : Prop where
  /-- The cell of the hart's hard-wired register holds 0 (10_state R30, R36). -/
  zeroReg : s.x[0] = 0
  /-- The identification registers hold their constants (R25). -/
  idRegs : s.mvendorid = s.params.mvendoridValue ∧ s.marchid = s.params.marchidValue
  /-- "a block in phase `FATAL` has both enable bits clear" (43_trap R112), and the vector it was entered by. -/
  fatalQuiet : s.phase = .fatal →
    s.mieSet = false ∧ s.mtieSet = false ∧ s.mtvec = s.params.trapEntry
  /-- The only diagnostic event is the one emitted on entering FATAL (10_state R34, 43_trap R125). -/
  diagOnce : s.diag.length = if s.phase = .fatal then 1 else 0
  /-- "every save goes into the index the last load came from" (43_trap R127 d). -/
  snapOwner : s.init = true → sameStorage s.snap s.tt[s.cur].rf

/-- The state after a list of instructions, each performed in the state the one before it left. -/
def execAll : List Instr → State → Option State
  | [], s => some s
  | i :: rest, s =>
    match exec i s with
    | .next t => execAll rest t
    | _ => none

/-- `n` steps lead from `s` to `t`, each taken in a state that meets `P`. -/
def reaches (P : State → Prop) : Nat → State → State → Prop
  | 0, s, t => s = t
  | n + 1, s, t =>
    P s ∧
      match step s with
      | .next m => reaches P n m t
      | _ => False

/-- The state after `n` ticks of the Clock, if none of them faults. -/
def afterTicks : Nat → State → Option State
  | 0, s => some s
  | n + 1, s =>
    match tickOp s with
    | .ok t => afterTicks n t
    | .error _ => none

/-- The instruction is a TRAP with a timer cause: the low nine bits of the cause word are 7 (43_trap R113). -/
def isTimerTrap : Instr → Prop
  | .trap _ _ cause _ _ => cause.toNat % 512 = 7
  | _ => False

/-- In this turn the hart raises no trap and no command rewrites `mtimecmp` (70_reset_and_hazards R185): a frame on the
trap port is no trap, and one on the command port neither ARM nor WRCMP. -/
def keepsDeadline : Turn → Prop
  | .command f => ∀ d, decode .command f ≠ .ok (.arm d) ∧ decode .command f ≠ .ok (.wrcmp d)
  | .trapFrame f => ∀ i, decode .trap f ≠ .ok i
  | .hartTrap _ _ _ _ => False
  | .hartRun _ _ => True
  | .timer => True
  | .tick => True

/-- Two outcomes agree: both next states related by `R`, or the same stop. -/
def outRel (R : State → State → Prop) : Out → Out → Prop
  | .next s, .next t => R s t
  | .fault f, .fault g => f = g
  | .refused f, .refused g => f = g
  | _, _ => False

/-- Two states differ at most in the inert components `entry` and `tag` of tasks (10_state R17). -/
def eqButInert (s t : State) : Prop :=
  t = { s with tt := t.tt } ∧ ∀ i : Fin nTasks, t.tt[i].pc = s.tt[i].pc ∧ t.tt[i].rf = s.tt[i].rf

end Sys2Proof.Machine
end

