-- ==== Sys2Proof/Certificates/Slice0/Obligations.lean ====
section
/-! DEFINITION. The statements for the provers, each from a numbered rule of spec/. A statement about what an
instruction does is an equation for the next state, so it says what changes, and that nothing else does. -/

open Sys2Proof Sys2Proof.Machine

/-! ### Frames (30_encoding.md) -/

/-- R61 to R64: every legal instruction is read back from its frame on its own port. -/
def Obligations.DecodeOfEncode : Prop :=
  ∀ i : Instr, i.wf = true → decode i.port (encode i) = .ok i

/-- R61 to R64: what the decoder accepts is a legal instruction, on its own port, and its one frame. -/
def Obligations.DecodedFrameIsItsEncoding : Prop :=
  ∀ (p : Port) (f : Frame) (i : Instr), decode p f = .ok i →
    i.wf = true ∧ p = i.port ∧ f = encode i

/-- R65: the header is `(op << 12) | (a << 4)`, with the rule's examples. -/
def Obligations.HeaderLayoutAndExamples : Prop :=
  (∀ i : Instr, (encode i).header = (i.op.setWidth 16 <<< 12) ||| (i.arg.setWidth 16 <<< 4)) ∧
    (encode (.rdcsr 0)).header = 0x1000 ∧ (encode (.rdcsr 1)).header = 0x1010 ∧
    (encode (.rdcsr 2)).header = 0x1020 ∧ (encode (.rdcsr 3)).header = 0x1030 ∧
    (encode (.rdcsr 4)).header = 0x1040 ∧
    (∀ v : Word, (encode (.wrcsr 0 v)).header = 0x2000 ∧ (encode (.wrcsr 1 v)).header = 0x2010 ∧
      (encode (.wrcsr 2 v)).header = 0x2020 ∧ (encode (.arm v)).header = 0x4000 ∧
      (encode (.tinit 0 v)).header = 0x7000 ∧ (encode (.tinit 1 v)).header = 0x7010 ∧
      (encode (.wrcmp v)).header = 0xA000) ∧
    (encode .rdtime).header = 0x3000 ∧ (encode .ei).header = 0x5000 ∧
    (encode .di).header = 0x6000 ∧ (encode .rdcmp).header = 0x9000 ∧
    (∀ a b c d e : Word, (encode (.trap a b c d e)).header = 0x8000)

/-- R68: an illegal frame is not performed and raises the fault of its cause. `plain` is a cause of the first,
second, third, sixth or seventh kind, `csr` of the fourth, `index` of the fifth; a frame with causes that
name different faults is in the next statement. -/
def Obligations.IllegalFrameRaisesItsFault : Prop :=
  ∀ (p : Port) (f : Frame) (s : State), s.enabled →
    let op := (f.header.toNat / 0x1000) % 0x10
    let a := (f.header.toNat / 0x10) % 0x100
    let z := f.header.toNat % 0x10
    let plain := op = 0 ∨ 0xB ≤ op ∨ z ≠ 0 ∨ (a ≠ 0 ∧ op ≠ 1 ∧ op ≠ 2 ∧ op ≠ 7) ∨
      (op = 8 ∧ p = .command) ∨ (op ≠ 8 ∧ p = .trap)
    let csr := (op = 1 ∨ op = 2) ∧ 4 < a
    let index := op = 7 ∧ nTasks ≤ a
    (plain ∧ ¬ csr ∧ ¬ index → deliver p f s = .next { s with fault := some .illegalCommand }) ∧
      (csr ∧ ¬ plain → deliver p f s = .next { s with fault := some .illegalCsr }) ∧
      (index ∧ ¬ plain → deliver p f s = .next { s with fault := some .tableIndexRange }) ∧
      (¬ plain ∧ ¬ csr ∧ ¬ index → f.operands.length = wordsOfOp op → ∃ i, decode p f = .ok i)

/-- The model's choice (log 7), not a rule: a frame illegal for two causes whose faults differ raises
IllegalCommand. -/
def Obligations.OverlappingCausesRaiseIllegalCommand : Prop :=
  ∀ (p : Port) (f : Frame) (s : State), s.enabled →
    let op := (f.header.toNat / 0x1000) % 0x10
    let a := (f.header.toNat / 0x10) % 0x100
    let z := f.header.toNat % 0x10
    (((op = 1 ∨ op = 2) ∧ 4 < a) ∨ (op = 7 ∧ nTasks ≤ a)) → (z ≠ 0 ∨ p = .trap) →
      deliver p f s = .next { s with fault := some .illegalCommand }

/-- R69: every header is one of the rows of R64 (on the row's port), or illegal whatever follows it. -/
def Obligations.EveryHeaderIsARowOrIllegal : Prop :=
  ∀ (p : Port) (h : Header),
    ((∃ r ∈ opcodeRows, r.selects h = true ∧ r.port = p) ∧ ∃ ws i, decode p ⟨h, ws⟩ = .ok i) ∨
      ((¬ ∃ r ∈ opcodeRows, r.selects h = true ∧ r.port = p) ∧
        ∃ e, e ≠ DecodeError.notAFrame ∧ ∀ ws, decode p ⟨h, ws⟩ = .error e)

/-- R64: no header selects two rows of the opcode map. -/
def Obligations.OpcodeRowsNeverOverlap : Prop :=
  ∀ (h : Header) (r q : OpcodeRow), r ∈ opcodeRows → q ∈ opcodeRows →
    r.selects h = true → q.selects h = true → r = q

/-- Headers of spec/95_test_vectors.md 2.1, written out, decode as that table says (a check of a few words). -/
def Obligations.DecodeOfSampleFrames : Prop :=
  decode .command ⟨0x1040, []⟩ = .ok (.rdcsr 4) ∧
    decode .command ⟨0x2020, [0x1234]⟩ = .ok (.wrcsr 2 0x1234) ∧
    decode .command ⟨0x4000, [0x2000]⟩ = .ok (.arm 0x2000) ∧
    decode .command ⟨0x7010, [0x80002000]⟩ = .ok (.tinit 1 0x80002000) ∧
    decode .trap ⟨0x8000, [0x80000040, 0, 0x8000000000000007, 0, 8]⟩ =
      .ok (.trap 0x80000040 0 0x8000000000000007 0 8) ∧
    decode .command ⟨0x1050, []⟩ = .error .illegalCsr ∧
    decode .command ⟨0x7020, [0]⟩ = .error .tableIndexRange ∧
    decode .trap ⟨0x5000, []⟩ = .error .illegalCommand

/-! ### Steps and outcomes (00_scope.md, 10_state.md) -/

/-- R60, R64, R68: the frame whose turn it is is delivered on its port, in the state with that turn taken (what an
illegal one does there is in the statements about `deliver`); where it decodes it is performed: the step is `exec` of
the instruction. -/
def Obligations.StepRunsTheDecodedInstruction : Prop :=
  ∀ (s : State) (f : Frame) (rest : List Turn), s.enabled →
    (s.turns = .command f :: rest →
      step s = deliver .command f { s with turns := rest } ∧
      ∀ i, decode .command f = .ok i → step s = exec i { s with turns := rest }) ∧
    (s.turns = .trapFrame f :: rest →
      step s = deliver .trap f { s with turns := rest } ∧
      ∀ i, decode .trap f = .ok i → step s = exec i { s with turns := rest })

/-- R9, R160: an operation that faults commits nothing; only the latch changes, and it names the fault. -/
def Obligations.FaultCommitsNothing : Prop :=
  ∀ (i : Instr) (s t : State) (f : ModelFault), exec i s = .next t → t.fault = some f →
    t = { s with fault := some f }

/-- R160: which operation raises which model fault. -/
def Obligations.OnlyItsOwnFaults : Prop :=
  ∀ (i : Instr) (s t : State) (f : ModelFault), exec i s = .next t → t.fault = some f →
    match i with
    | .rdcsr _ => f = .illegalCsr
    | .wrcsr _ _ => f = .illegalCsr ∨ f = .readOnlyCsrWrite
    | .arm _ => f = .armOverflow
    | .tinit _ _ => f = .tableIndexRange ∨ f = .tableWriteAfterBoot
    | .trap _ _ _ _ _ => f = .trapVectorNotInstalled ∨ f = .armOverflow
    | _ => False

/-- R29, R186; stopping there is the model's choice among the two R29 allows (log 3). -/
def Obligations.LatchedFaultStopsEverything : Prop :=
  ∀ (s : State) (f : ModelFault), s.fault = some f →
    step s = .fault (.latched f) ∧ ∀ i, exec i s = .fault (.latched f)

/-- R28, R85, R124: in FATAL no operation is enabled and only the Clock steps: every other turn passes (log 19)
and every piece of the spec's state but `mtime` and the latch stays as it is. -/
def Obligations.FatalIsAbsorbing : Prop :=
  ∀ s : State, s.good → s.phase = .fatal →
    (∀ i, exec i s = .refused .notEnabled) ∧
    ∃ t, step s = .next t ∧
      t = { s with mtime := t.mtime, fault := t.fault, turns := t.turns, draws := t.draws } ∧
      (nextTurn s ≠ .tick → t.mtime = s.mtime ∧ t.fault = none) ∧
      (nextTurn s = .tick → s.mtime.toNat + 1 < 2 ^ 64 →
        t.mtime.toNat = s.mtime.toNat + 1 ∧ t.fault = none) ∧
      (nextTurn s = .tick → s.mtime.toNat + 1 = 2 ^ 64 →
        t.mtime = s.mtime ∧ t.fault = some .counterOverflow)

/-! ### Hardware access (40_hw_access.md) -/

/-- R80 (effect, faults, corner cases): the value is the response; a writable register becomes 0 under
`CSR_READ_CLEARS` and is kept without it; an identification register is kept; nothing else changes. -/
def Obligations.ReadCsrReturnsAndClears : Prop :=
  ∀ (s : State) (sel : BitVec 8), s.enabled →
    (sel = 0 → exec (.rdcsr sel) s = .next { s with
      cmdResp := some s.mstatus, mstatus := if s.params.csrReadClears then 0 else s.mstatus }) ∧
    (sel = 1 → exec (.rdcsr sel) s = .next { s with
      cmdResp := some s.mie, mie := if s.params.csrReadClears then 0 else s.mie }) ∧
    (sel = 2 → exec (.rdcsr sel) s = .next { s with
      cmdResp := some s.mtvec, mtvec := if s.params.csrReadClears then 0 else s.mtvec }) ∧
    (sel = 3 → exec (.rdcsr sel) s = .next { s with cmdResp := some s.mvendorid }) ∧
    (sel = 4 → exec (.rdcsr sel) s = .next { s with cmdResp := some s.marchid }) ∧
    (4 < sel.toNat → exec (.rdcsr sel) s = .next { s with fault := some .illegalCsr })

/-- R80 corner cases (ii), (iii): the second of two reads of a writable register returns 0; after a read of
`mtvec` every trap faults, unless `TRAP_ENTRY = 0`, until EI or a write of `mtvec` reinstalls it. -/
def Obligations.ClearingReadUninstallsTheVector : Prop :=
  ∀ s t : State, s.params.csrReadClears = true →
    (∀ sel : BitVec 8, sel.toNat ≤ 2 → exec (.rdcsr sel) s = .next t →
      ∃ u, exec (.rdcsr sel) t = .next u ∧ u.cmdResp = some 0) ∧
    (exec (.rdcsr 2) s = .next t → s.params.trapEntry ≠ 0 →
      (∀ a b c d e, exec (.trap a b c d e) t =
        .next { t with fault := some .trapVectorNotInstalled }) ∧
      ∃ u v, exec .ei t = .next u ∧ u.mtvec = s.params.trapEntry ∧
        exec (.wrcsr 2 s.params.trapEntry) t = .next v ∧ v.mtvec = s.params.trapEntry)

/-- R81 (effect, faults, corner case (iii)), R26: the whole word is written and held exactly; a read-only register
or an unknown selector faults; nothing else changes. -/
def Obligations.WriteCsrHoldsTheWholeWord : Prop :=
  ∀ (s : State) (sel : BitVec 8) (v : Word), s.enabled →
    (sel = 0 → exec (.wrcsr sel v) s = .next { s with cmdResp := none, mstatus := v }) ∧
    (sel = 1 → exec (.wrcsr sel v) s = .next { s with cmdResp := none, mie := v }) ∧
    (sel = 2 → exec (.wrcsr sel v) s = .next { s with cmdResp := none, mtvec := v }) ∧
    (sel = 3 ∨ sel = 4 → exec (.wrcsr sel v) s = .next { s with fault := some .readOnlyCsrWrite }) ∧
    (4 < sel.toNat → exec (.wrcsr sel v) s = .next { s with fault := some .illegalCsr })

/-- R81 corner cases (i), (ii): setting the second enable bit while the interrupt is pending makes it takeable at
once; any other vector makes every later trap fault. -/
def Obligations.WriteCsrAndTheInterrupt : Prop :=
  ∀ (s t : State) (v : Word),
    (exec (.wrcsr 0 v) s = .next t → s.mtip = true → s.mie.getLsbD 7 = true →
      t.takeable = v.getLsbD 3) ∧
    (exec (.wrcsr 1 v) s = .next t → s.mtip = true → s.mstatus.getLsbD 3 = true →
      t.takeable = v.getLsbD 7) ∧
    (exec (.wrcsr 2 v) s = .next t → v ≠ s.params.trapEntry → ∀ a b c d e,
      exec (.trap a b c d e) t = .next { t with fault := some .trapVectorNotInstalled })

/-- R82, R83: RDTIME returns the counter, RDCMP the compare register; nothing else changes. -/
def Obligations.TimerReadsReturnTheRegister : Prop :=
  ∀ s : State, s.enabled →
    exec .rdtime s = .next { s with cmdResp := some s.mtime } ∧
    exec .rdcmp s = .next { s with cmdResp := some s.mtimecmp }

/-- R84: WRCMP writes the compare register, which re-evaluates the pending signal; with its corner cases and
frame. -/
def Obligations.WriteCompareRearms : Prop :=
  ∀ (s : State) (v : U64), s.enabled →
    encode (.wrcmp v) = ⟨0xA000, [v]⟩ ∧
    ∃ t, exec (.wrcmp v) s = .next t ∧ t = { s with cmdResp := none, mtimecmp := v } ∧
      (t.mtip = true ↔ v.toNat ≤ s.mtime.toNat) ∧
      (v = 0xFFFFFFFFFFFFFFFF → (t.mtip = true ↔ s.mtime = 0xFFFFFFFFFFFFFFFF))

/-- R86: CsrSetBit and CsrClearBit change one bit of one register, and clear nothing else. -/
def Obligations.BitAccessKeepsOtherBits : Prop :=
  ∀ (s : State) (c : Csr) (b i : Nat), csrWritable c = true → b < xlen →
    (readCsr c (csrSetBit c b s)).getLsbD i = (if i = b then true else (readCsr c s).getLsbD i) ∧
    (readCsr c (csrClearBit c b s)).getLsbD i = (if i = b then false else (readCsr c s).getLsbD i) ∧
    csrSetBit c b s = { s with
        mstatus := (csrSetBit c b s).mstatus, mie := (csrSetBit c b s).mie,
        mtvec := (csrSetBit c b s).mtvec } ∧
    csrClearBit c b s = { s with
        mstatus := (csrClearBit c b s).mstatus,
        mie := (csrClearBit c b s).mie, mtvec := (csrClearBit c b s).mtvec } ∧
    (∀ d, d ≠ c → readCsr d (csrSetBit c b s) = readCsr d s ∧
      readCsr d (csrClearBit c b s) = readCsr d s)

/-- R47: the memory-mapped accesses that are defined, and no others; R40, R44: the 8 bytes of each are apart from
those of the other register and from the console port. The model's choices in it: an address is the sum modulo 2^64
(log 15), and an accepted configuration is one that meets the constraints of log 14 and log 22. -/
def Obligations.MemoryMappedAccesses : Prop :=
  ∀ (s : State) (v : U64), configAccepted s.params = true →
    memRead (s.params.timerBase + s.params.offCounter) 8 s = some s.mtime ∧
    memRead (s.params.timerBase + s.params.offCompare) 8 s = some s.mtimecmp ∧
    memWrite (s.params.timerBase + s.params.offCompare) 8 v s = some { s with mtimecmp := v } ∧
    (∀ addr n, memRead addr n s ≠ none → n = 8 ∧
      (addr = s.params.timerBase + s.params.offCounter ∨
        addr = s.params.timerBase + s.params.offCompare)) ∧
    (∀ addr n, memWrite addr n v s ≠ none →
      n = 8 ∧ addr = s.params.timerBase + s.params.offCompare) ∧
    (∀ addr n, (memRead addr n s).isSome ∨ (memWrite addr n v s).isSome →
      8 ≤ (s.params.consoleAddr - addr).toNat ∧
      ∀ addr', (memRead addr' n s).isSome → addr' ≠ addr → 8 ≤ (addr' - addr).toNat)

/-! ### Timer and clock (41_timer.md) -/

/-- R91: the deadline is the exact sum where it fits, and the fault ArmOverflow with nothing changed where it
does not. -/
def Obligations.ArmStoresTheExactSum : Prop :=
  ∀ (s : State) (d : U64), s.enabled →
    (s.mtime.toNat + d.toNat < 2 ^ 64 → ∃ t, exec (.arm d) s = .next t ∧
      t = { s with cmdResp := none, mtimecmp := t.mtimecmp } ∧
      t.mtimecmp.toNat = s.mtime.toNat + d.toNat) ∧
    (2 ^ 64 ≤ s.mtime.toNat + d.toNat →
      exec (.arm d) s = .next { s with fault := some .armOverflow })

/-- R90 corner cases (i), (ii): the interrupt is pending after exactly `d` ticks, and not before. -/
def Obligations.ArmFiresAfterExactlyItsOffset : Prop :=
  ∀ (s t : State) (d : U64), exec (.arm d) s = .next t → t.fault = none →
    (∀ n, n < d.toNat → ∃ u, afterTicks n t = some u ∧ u.mtip = false) ∧
    (∃ u, afterTicks d.toNat t = some u ∧ u.mtip = true)

/-- R93: a tick adds one to the counter, in every phase, and changes nothing else; at `2^64 - 1` it faults. -/
def Obligations.TickAddsOneOrFaults : Prop :=
  ∀ (s : State) (rest : List Turn), s.good → s.turns = .tick :: rest →
    (s.mtime.toNat + 1 < 2 ^ 64 → ∃ t, step s = .next t ∧
      t = { s with turns := rest, mtime := t.mtime } ∧ t.mtime.toNat = s.mtime.toNat + 1) ∧
    (s.mtime.toNat + 1 = 2 ^ 64 →
      step s = .next { s with turns := rest, fault := some .counterOverflow })

/-- R27, R49: the counter is monotonically non-decreasing, and only the Clock changes it. -/
def Obligations.CounterIsMonotone : Prop :=
  ∀ s t : State, step s = .next t →
    s.mtime.toNat ≤ t.mtime.toNat ∧ (t.mtime ≠ s.mtime → nextTurn s = .tick)

/-- R163: a pending interrupt stays pending over any step that does not rewrite the compare register, whatever
the enable bits, and is takeable in RUN whenever both bits are set. -/
def Obligations.PassedDeadlineIsHeld : Prop :=
  ∀ s t : State, step s = .next t → s.mtip = true → t.mtimecmp = s.mtimecmp →
    t.mtip = true ∧
    (t.phase = .run → t.mstatus.getLsbD 3 = true → t.mie.getLsbD 7 = true → t.takeable = true)

/-! ### Interrupt control (42_interrupt_control.md) -/

/-- R100: EI sets the two bits, keeps the other bits, installs the vector, and changes nothing else; it is
idempotent, and makes a pending interrupt takeable at once. -/
def Obligations.EnableSetsBitsAndVector : Prop :=
  ∀ s : State, s.enabled → encode .ei = ⟨0x5000, []⟩ ∧ ∃ t, exec .ei s = .next t ∧
    t = { s with cmdResp := none, mstatus := t.mstatus, mie := t.mie, mtvec := s.params.trapEntry } ∧
    (∀ b, b < 64 → t.mstatus.getLsbD b = if b = 3 then true else s.mstatus.getLsbD b) ∧
    (∀ b, b < 64 → t.mie.getLsbD b = if b = 7 then true else s.mie.getLsbD b) ∧
    exec .ei t = .next t ∧ t.takeable = s.mtip

/-- R101: DI clears the two bits, keeps the other bits and the vector, and changes nothing else; a deadline that
passes meanwhile is held until the next EI; traps with a non-timer cause are not masked. -/
def Obligations.DisableClearsBits : Prop :=
  ∀ s : State, s.enabled → encode .di = ⟨0x6000, []⟩ ∧ ∃ t, exec .di s = .next t ∧
    t = { s with cmdResp := none, mstatus := t.mstatus, mie := t.mie } ∧
    (∀ b, b < 64 → t.mstatus.getLsbD b = if b = 3 then false else s.mstatus.getLsbD b) ∧
    (∀ b, b < 64 → t.mie.getLsbD b = if b = 7 then false else s.mie.getLsbD b) ∧
    t.mtip = s.mtip ∧ t.takeable = false ∧
    (∃ u, exec .ei t = .next u ∧ u.takeable = s.mtip) ∧
    (s.mtvec = s.params.trapEntry → ∀ a b c d e, c.toNat % 512 ≠ 7 →
      ∃ u, exec (.trap a b c d e) t = .next u ∧ u.phase = .fatal)

/-! ### Boot (44_boot.md) -/

/-- R131: TINIT writes four components of one task and no other component of any task; its faults are in the
next statement. -/
def Obligations.TaskCreationWritesFourComponents : Prop :=
  ∀ (s : State) (index : BitVec 8) (entry : Word) (i : Fin nTasks), s.enabled →
    s.init = false → s.mstatus.getLsbD 3 = false → index.toNat = i.val →
    ∃ t, exec (.tinit index entry) s = .next t ∧ t = { s with cmdResp := none, tt := t.tt } ∧
      t.tt[i].entry = entry ∧ t.tt[i].pc = entry ∧ t.tt[i].tag = s.params.initTag ∧
      t.tt[i].rf.gpr[2] = spInit s.params i ∧
      (∀ k : Fin nGpr, k ≠ 2 → t.tt[i].rf.gpr[k] = s.tt[i].rf.gpr[k]) ∧
      sameStorage t.tt[i].rf s.tt[i].rf ∧
      (∀ j : Fin nTasks, j ≠ i → t.tt[j] = s.tt[j])

/-- R133: TINIT is accepted only while `init = 0` and `mstatus.MIE = 0`; R131: and only for an index of the
table, which is asked first. -/
def Obligations.TaskCreationOnlyBeforeBootEnds : Prop :=
  ∀ (s : State) (index : BitVec 8) (entry : Word), s.enabled →
    (index.toNat < nTasks → (s.init = true ∨ s.mstatus.getLsbD 3 = true) →
      exec (.tinit index entry) s = .next { s with fault := some .tableWriteAfterBoot }) ∧
    (index.toNat < nTasks → s.init = false → s.mstatus.getLsbD 3 = false →
      ∃ t, exec (.tinit index entry) s = .next t ∧ t.fault = none) ∧
    (nTasks ≤ index.toNat →
      exec (.tinit index entry) s = .next { s with fault := some .tableIndexRange })

/-- R132: the default initial stack pointer is `(STACK_TOP - (i+1) * STACK_SIZE) mod 2^XLEN`. -/
def Obligations.DefaultStackPointer : Prop :=
  ∀ (p : Params) (i : Fin nTasks), p.spInit = none →
    ((spInit p i).toNat : Int) =
      ((p.stackTop.toNat : Int) - ((i.val : Int) + 1) * (p.stackSize.toNat : Int)) % 2 ^ 64

/-- R71, R134: the BOOT sequence creates every task, arms the first deadline and enables: the values it leaves, and
that every other register, bit and component of a task is kept. -/
def Obligations.BootSequencePreparesEveryTask : Prop :=
  ∀ (s : State) (entries : Vector Word nTasks), s.enabled → s.init = false →
    s.mstatus.getLsbD 3 = false → s.mtime.toNat + s.params.quantumBoot.toNat < 2 ^ 64 →
    ∃ t, execAll (bootSequence s.params entries) s = some t ∧
      t = { s with
          tt := t.tt, mstatus := t.mstatus, mie := t.mie, mtvec := s.params.trapEntry,
          mtimecmp := t.mtimecmp, cmdResp := none } ∧
      t.mtimecmp.toNat = s.mtime.toNat + s.params.quantumBoot.toNat ∧
      (∀ b, b < 64 → t.mstatus.getLsbD b = if b = 3 then true else s.mstatus.getLsbD b) ∧
      (∀ b, b < 64 → t.mie.getLsbD b = if b = 7 then true else s.mie.getLsbD b) ∧
      ∀ i : Fin nTasks, t.tt[i].pc = entries[i] ∧ t.tt[i].entry = entries[i] ∧
        t.tt[i].rf.gpr[2] = spInit s.params i ∧ t.tt[i].tag = s.params.initTag ∧
        (∀ k : Fin nGpr, k ≠ 2 → t.tt[i].rf.gpr[k] = s.tt[i].rf.gpr[k]) ∧
        sameStorage t.tt[i].rf s.tt[i].rf

/-! ### The trap sequence (43_trap.md) -/

/-- R113: a timer cause is one whose low nine bits are 7, as unsigned numbers. -/
def Obligations.TimerCauseIsLowNineBits : Prop :=
  ∀ cause : Word, isTimerCause cause = true ↔ cause.toNat % 2 ^ 9 = 7

/-- R114: bits 9 and up of the cause play no part, the interrupt bit among them. -/
def Obligations.HighCauseBitsPlayNoPart : Prop :=
  (∀ (s : State) (epc tval hartid m cause cause' : Word), cause.toNat % 512 = cause'.toNat % 512 →
    exec (.trap epc tval cause hartid m) s = exec (.trap epc tval cause' hartid m) s) ∧
  isTimerCause 0x8000000000000007 = true ∧ isTimerCause 7 = true ∧ isTimerCause 0x207 = true ∧
  isTimerCause 0x107 = false

/-- R126: no result depends on `tval`, `hartid` or `mstatus_arg`, through the port as through the hart; the frame of
the timer sequencer carries the value `mstatus` holds before stage 2, and the sequence it starts finds that value
unchanged: sampling it clears nothing. -/
def Obligations.UnusedTrapArgumentsChangeNothing : Prop :=
  (∀ (s : State) (rest : List Turn) (h : Header) (w0 w1 w2 w3 w4 v1 v3 v4 : Word),
    step { s with turns := .trapFrame ⟨h, [w0, w1, w2, w3, w4]⟩ :: rest } =
      step { s with turns := .trapFrame ⟨h, [w0, v1, w2, v3, v4]⟩ :: rest } ∧
    step { s with turns := .hartTrap w1 w2 w3 w4 :: rest } =
      step { s with turns := .hartTrap v1 w2 v3 v4 :: rest }) ∧
  ∀ s : State, s.good → s.takeable = true → nextTurn s = .timer →
    ∃ u epc tval cause hartid, timerTrap u = .trap epc tval cause hartid s.mstatus ∧
      step s = exec (timerTrap u) u ∧ u = takeTurn s ∧ u.mstatus = s.mstatus

/-- R110, R172: with any other value in `mtvec` a trap faults, whatever its cause, and changes nothing. -/
def Obligations.TrapNeedsTheInstalledVector : Prop :=
  ∀ (s : State) (epc tval cause hartid m : Word), s.enabled →
    (exec (.trap epc tval cause hartid m) s =
      .next { s with fault := some .trapVectorNotInstalled } ↔ s.mtvec ≠ s.params.trapEntry)

/-- R115, R119, R122, R123 (with R111, R117, R118, R120, R121): what a timer trap after the first one does, and
that it changes nothing else. -/
def Obligations.TimerTrapSwitchesTheTask : Prop :=
  ∀ (s : State) (epc tval cause hartid m : Word), s.enabled → s.mtvec = s.params.trapEntry →
    cause.toNat % 512 = 7 → s.init = true →
    s.mtime.toNat + s.params.quantumSteady.toNat < 2 ^ 64 →
    ∃ t, exec (.trap epc tval cause hartid m) s = .next t ∧
      t = { s with
          tt := t.tt, cur := t.cur, snap := t.snap, mstatus := t.mstatus, mie := t.mie,
          mtimecmp := t.mtimecmp, x := t.x, pc := t.tt[t.cur].pc,
          trapResp := some t.tt[t.cur].pc } ∧
      t.tt[s.cur] = { s.tt[s.cur] with pc := epc, rf := { s.snap with gpr := readAllX s } } ∧
      (∀ j : Fin nTasks, j ≠ s.cur → t.tt[j] = s.tt[j]) ∧
      t.cur.val = (s.cur.val + 1) % nTasks ∧
      t.snap = t.tt[t.cur].rf ∧
      t.mtimecmp.toNat = s.mtime.toNat + s.params.quantumSteady.toNat ∧
      (∀ b, b < 64 → t.mstatus.getLsbD b = if b = 3 then true else s.mstatus.getLsbD b) ∧
      (∀ b, b < 64 → t.mie.getLsbD b = if b = 7 then true else s.mie.getLsbD b) ∧
      t.x[0] = s.x[0] ∧
      (∀ k : Fin nGpr, readX t k = if k = 0 then 0 else t.snap.gpr[k])

/-- R116: the first timer trap sets the flag and saves nothing; the cursor stays unless `BOOT_ADVANCE`; the rest
is as for every timer trap, and nothing else changes. -/
def Obligations.BootstrapTrapSavesNothing : Prop :=
  ∀ (s : State) (epc tval cause hartid m : Word), s.enabled → s.mtvec = s.params.trapEntry →
    cause.toNat % 512 = 7 → s.init = false →
    s.mtime.toNat + s.params.quantumSteady.toNat < 2 ^ 64 →
    ∃ t, exec (.trap epc tval cause hartid m) s = .next t ∧
      t = { s with
          init := true, cur := t.cur, snap := s.tt[t.cur].rf, mstatus := t.mstatus,
          mie := t.mie, mtimecmp := t.mtimecmp, x := t.x, pc := s.tt[t.cur].pc,
          trapResp := some s.tt[t.cur].pc } ∧
      t.cur.val = (if s.params.bootAdvance then (s.cur.val + 1) % nTasks else s.cur.val) ∧
      t.mtimecmp.toNat = s.mtime.toNat + s.params.quantumSteady.toNat ∧
      (∀ b, b < 64 → t.mstatus.getLsbD b = if b = 3 then true else s.mstatus.getLsbD b) ∧
      (∀ b, b < 64 → t.mie.getLsbD b = if b = 7 then true else s.mie.getLsbD b) ∧
      t.x[0] = s.x[0] ∧
      (∀ k : Fin nGpr, readX t k = if k = 0 then 0 else s.tt[t.cur].rf.gpr[k])

/-- R120: where the next deadline does not fit, the whole timer trap faults and commits nothing; where it fits and
the quantum is at least 1, the pending interrupt is cleared. -/
def Obligations.RearmClearsOrFaults : Prop :=
  ∀ (s : State) (epc tval cause hartid m : Word), s.enabled → s.mtvec = s.params.trapEntry →
    cause.toNat % 512 = 7 →
    (2 ^ 64 ≤ s.mtime.toNat + s.params.quantumSteady.toNat →
      exec (.trap epc tval cause hartid m) s = .next { s with fault := some .armOverflow }) ∧
    (s.mtime.toNat + s.params.quantumSteady.toNat < 2 ^ 64 →
      ∃ t, exec (.trap epc tval cause hartid m) s = .next t ∧ t.mtimecmp.toNat =
        s.mtime.toNat + s.params.quantumSteady.toNat ∧
        (1 ≤ s.params.quantumSteady.toNat → t.mtip = false))

/-- R124, R125 (with R111, R112): any other cause captures, disables, emits one event and enters FATAL; nothing
else changes. The marker is the free value `Config.diagMarker` of the snapshot (log 10). -/
def Obligations.OtherCausesAreFatal : Prop :=
  ∀ (s : State) (epc tval cause hartid m : Word), s.enabled → s.mtvec = s.params.trapEntry →
    cause.toNat % 512 ≠ 7 →
    ∃ t, exec (.trap epc tval cause hartid m) s = .next t ∧
      t = { s with
          snap := { s.snap with gpr := readAllX s }, mstatus := t.mstatus, mie := t.mie,
          diag := s.diag ++ [⟨epc, Config.diagMarker t.snap⟩], phase := .fatal, trapResp := none } ∧
      (∀ b, b < 64 → t.mstatus.getLsbD b = if b = 3 then false else s.mstatus.getLsbD b) ∧
      (∀ b, b < 64 → t.mie.getLsbD b = if b = 7 then false else s.mie.getLsbD b)

/-- R111: the snapshot a trap captures is the 32 live registers, 0 for `x[0]`. -/
def Obligations.CaptureTakesTheLiveRegisters : Prop :=
  ∀ (s : State) (k : Fin nGpr),
    (capture s).snap.gpr[k] = (if k = 0 then 0 else s.x[k]) ∧
    sameStorage (capture s).snap s.snap ∧ capture s = { s with snap := (capture s).snap }

/-- R127 (a): after the bootstrap the sequence of active task indexes is cyclic, one transition per timer
interrupt: the k-th timer trap ends with the cursor k - 1 places on (k places under `BOOT_ADVANCE`). -/
def Obligations.TimerTrapsRotateCyclically : Prop :=
  ∀ (l : List Instr) (s : State), s.enabled → s.mtvec = s.params.trapEntry → s.init = false →
    s.mtime.toNat + s.params.quantumSteady.toNat < 2 ^ 64 → l ≠ [] → (∀ i ∈ l, isTimerTrap i) →
    ∃ t, execAll l s = some t ∧ t.fault = none ∧ t.init = true ∧
      t.cur.val = (s.cur.val + l.length - (if s.params.bootAdvance then 0 else 1)) % nTasks

/-- R127 (b): what a timer trap saves of task `i` is what the hart gets back, registers and pc, when `i` is next
resumed, whatever steps come between. -/
def Obligations.SavedContextComesBack : Prop :=
  ∀ (n : Nat) (s t u w : State) (epc tval cause hartid m epc' tval' cause' hartid' m' : Word),
    s.init = true → cause.toNat % 512 = 7 → cause'.toNat % 512 = 7 →
    exec (.trap epc tval cause hartid m) s = .next t → t.fault = none →
    reaches (fun v => v.cur ≠ s.cur) n t u →
    exec (.trap epc' tval' cause' hartid' m') u = .next w → w.fault = none → w.cur = s.cur →
    (∀ k : Fin nGpr, readX w k = readX s k) ∧ w.pc = epc ∧ w.trapResp = some epc

/-- R127 (d), C8: under the invariant, no step changes the storage-only components of any task's register file. -/
def Obligations.StorageComponentsNeverChange : Prop :=
  ∀ s t : State, s.Inv → step s = .next t →
    ∀ i : Fin nTasks, sameStorage t.tt[i].rf s.tt[i].rf

/-! ### Interrupts and agents (60_exceptions.md) -/

/-- R145: takeable exactly when the four conditions hold; `mtvec` is not one of them: with another vector the
trap the sequencer starts faults. -/
def Obligations.TakeableExactlyWhen : Prop :=
  ∀ s : State,
    (s.takeable = true ↔ s.phase = .run ∧ s.mtimecmp.toNat ≤ s.mtime.toNat ∧
      s.mstatus.getLsbD 3 = true ∧ s.mie.getLsbD 7 = true) ∧
    (∀ rest, s.good → s.turns = .timer :: rest → s.takeable = true →
      s.mtvec ≠ s.params.trapEntry →
      step s = .next { s with turns := rest, fault := some .trapVectorNotInstalled })

/-- R144: the trap frame the timer sequencer starts (each of its five words) when it takes the interrupt. That its turn passes where the
interrupt is not takeable is the model's choice (log 19). -/
def Obligations.SequencerTakesTheInterrupt : Prop :=
  (∀ s : State, timerTrap s = .trap s.pc 0 0x8000000000000007 s.params.hartid s.mstatus) ∧
  ∀ (s : State) (rest : List Turn), s.good → s.turns = .timer :: rest →
    (s.takeable = true →
      step s = exec (timerTrap { s with turns := rest }) { s with turns := rest } ∧
      step s = exec
        (.trap s.pc 0 0x8000000000000007 s.params.hartid s.mstatus) { s with turns := rest }) ∧
    (s.takeable = false → step s = .next { s with turns := rest })

/-- R146: in RUN the hart may raise a trap with any cause at its own pc, whatever the enable bits and the pending
signal; a timer cause takes the timer path (which faults where the next deadline does not fit), any other the fatal
path, whatever the counter holds. R172: with any other value in `mtvec` it faults, whatever its cause. -/
def Obligations.HartTrapsAreNotMasked : Prop :=
  ∀ (s : State) (rest : List Turn) (tval cause hartid m : Word), s.enabled →
    s.turns = .hartTrap tval cause hartid m :: rest →
    step s = exec (.trap s.pc tval cause hartid m) { s with turns := rest } ∧
    (s.mtvec ≠ s.params.trapEntry →
      step s = .next { s with turns := rest, fault := some .trapVectorNotInstalled }) ∧
    (s.mtvec = s.params.trapEntry →
      (cause.toNat % 512 = 7 → s.mtime.toNat + s.params.quantumSteady.toNat < 2 ^ 64 →
        ∃ t, step s = .next t ∧ t.fault = none ∧ t.phase = .run ∧ t.init = true ∧
          t.trapResp = some t.pc) ∧
      (cause.toNat % 512 = 7 → 2 ^ 64 ≤ s.mtime.toNat + s.params.quantumSteady.toNat →
        step s = .next { s with turns := rest, fault := some .armOverflow }) ∧
      (cause.toNat % 512 ≠ 7 →
        ∃ t, step s = .next t ∧ t.fault = none ∧ t.phase = .fatal ∧ t.pc = s.pc))

/-- R30, R31: in RUN the hart's own execution may change `x[1..31]` and `pc` to any values; a write of `x[0]` is
discarded and it reads as 0; nothing else changes. -/
def Obligations.HartRunsFreely : Prop :=
  ∀ (s : State) (rest : List Turn) (x : Vector Word nGpr) (pc : Word), s.enabled →
    s.turns = .hartRun x pc :: rest →
    ∃ t, step s = .next t ∧ t = { s with turns := rest, x := t.x, pc := pc } ∧
      t.x[0] = s.x[0] ∧ ∀ k : Fin nGpr, readX t k = if k = 0 then 0 else x[k]

/-- R185: after a timer trap at counter value `T`, whatever steps follow in which the hart raises no trap and no
command rewrites `mtimecmp`, the timer interrupt is not takeable before `T + QUANTUM_STEADY`; and after an ARM (boot's
with `QUANTUM_BOOT`) at `T`, not before `T` and its offset. -/
def Obligations.TaskRunsItsQuantum : Prop :=
  ∀ (n : Nat) (s t u : State), t.fault = none →
    reaches (fun v => keepsDeadline (nextTurn v)) n t u → u.takeable = true →
    (∀ epc tval cause hartid m : Word, exec (.trap epc tval cause hartid m) s = .next t →
      cause.toNat % 512 = 7 → s.mtime.toNat + s.params.quantumSteady.toNat ≤ u.mtime.toNat) ∧
    (∀ d : U64, exec (.arm d) s = .next t → s.mtime.toNat + d.toNat ≤ u.mtime.toNat)

/-! ### Whole-machine rules -/

/-- R19, R20, R117: only a timer trap moves the cursor, by one place and after the first one (or under
`BOOT_ADVANCE`); only a timer trap sets the flag; nothing clears it. -/
def Obligations.OnlyTimerTrapsScheduleTasks : Prop :=
  ∀ s t : State, step s = .next t → t.cur ≠ s.cur ∨ t.init ≠ s.init →
    (∃ i, isTimerTrap i ∧ exec i (takeTurn s) = .next t) ∧ t.init = true ∧
    (t.cur ≠ s.cur → t.cur.val = (s.cur.val + 1) % nTasks ∧
      (s.init = true ∨ s.params.bootAdvance = true))

/-- R18: who writes the Task Table: a TINIT of that entry while booting, or the save of a timer trap into the
current entry. -/
def Obligations.TaskTableWriters : Prop :=
  ∀ (s t : State) (j : Fin nTasks), step s = .next t → t.tt[j] ≠ s.tt[j] →
    (s.init = true ∧ j = s.cur ∧ ∃ i, isTimerTrap i ∧ exec i (takeTurn s) = .next t) ∨
    (s.init = false ∧ s.mstatus.getLsbD 3 = false ∧ ∃ index entry, index.toNat = j.val ∧
      exec (.tinit index entry) (takeTurn s) = .next t)

/-- R17: `tag` and `entry` are inert: two states that differ only in them step alike, and only TINIT writes
them. -/
def Obligations.TagAndEntryAreInert : Prop :=
  (∀ s s' : State, eqButInert s s' → outRel eqButInert (step s) (step s')) ∧
  (∀ (s t : State) (j : Fin nTasks), step s = .next t →
    t.tt[j].tag ≠ s.tt[j].tag ∨ t.tt[j].entry ≠ s.tt[j].entry →
    ∃ index entry, index.toNat = j.val ∧ exec (.tinit index entry) (takeTurn s) = .next t ∧
      t.tt[j].tag = s.params.initTag ∧ t.tt[j].entry = entry ∧ t.tt[j].pc = entry)

/-- R25, R35: no step changes the identification registers or a parameter. -/
def Obligations.ConstantsNeverChange : Prop :=
  ∀ s t : State, step s = .next t →
    t.mvendorid = s.mvendorid ∧ t.marchid = s.marchid ∧ t.params = s.params

/-- R34: the diagnostic stream only grows, by the one event of a fatal trap. -/
def Obligations.DiagnosticsOnlyAppend : Prop :=
  ∀ s t : State, step s = .next t →
    t.diag = s.diag ∨ (s.phase = .run ∧ t.phase = .fatal ∧ ∃ e, t.diag = s.diag ++ [e])

/-- Every step keeps the invariant `State.Inv` (R25, R30, R112, R125, R127). -/
def Obligations.StepKeepsTheInvariant : Prop :=
  ∀ s t : State, s.Inv → step s = .next t → t.Inv

/-- The invariant holds at reset, for every parameter and every value of what R36 leaves unspecified. -/
def Obligations.ResetHasTheInvariant : Prop :=
  State.reset.Inv ∧ ∀ (p : Params) (d : ResetDraw), (State.resetWith p d).Inv

/-! ### Reset and configuration (10_state.md, 70_reset_and_hazards.md) -/

/-- R36: the value of every piece of state after reset; what is unspecified takes any value (here the draw `d`). -/
def Obligations.ResetValues : Prop :=
  ∀ (p : Params) (d : ResetDraw),
    let s := State.resetWith p d
    s.cur.val = 0 ∧ s.init = false ∧ s.phase = .run ∧ s.fault = none ∧
    s.mstatus.getLsbD 3 = false ∧ s.mie.getLsbD 7 = false ∧
    (∀ b, b ≠ 3 → s.mstatus.getLsbD b = d.mstatus.getLsbD b) ∧
    (∀ b, b ≠ 7 → s.mie.getLsbD b = d.mie.getLsbD b) ∧
    s.mtvec = d.mtvec ∧ s.mvendorid = p.mvendoridValue ∧ s.marchid = p.marchidValue ∧
    s.mtime = d.mtime ∧ s.mtimecmp = d.mtimecmp ∧ s.tt = d.tt ∧ s.snap = d.snap ∧
    (∀ k : Fin nGpr, s.x[k] = if k = 0 then 0 else d.x[k]) ∧ s.pc = d.pc ∧ s.diag = [] ∧
    s.takeable = false

/-- The model's choice (log 1, log 2), not a rule: `State.reset` is the reset whose draw is all zeros and whose
parameters are the free ones held to the constraints of a configuration. -/
def Obligations.ResetIsTheZeroDraw : Prop :=
  State.reset = State.resetWith resetParams ResetDraw.zero

/-- R43, R46: a configuration with a timer address that is no multiple of 8, or with equal offsets, is refused
when the model is configured. The model's choices in it: one whose console port is a byte of a timer register, which
R40 excludes (log 22), and one with equal quanta, which R6 and D32 exclude (log 14), are refused there as well; the
addresses are sums modulo 2^64 (log 15); every other configuration is accepted. -/
def Obligations.BadConfigurationsAreRefused : Prop :=
  ∀ (p : Params) (d : ResetDraw),
    (configure p d = none ↔
      ((p.timerBase + p.offCounter).toNat % 8 ≠ 0 ∨ (p.timerBase + p.offCompare).toNat % 8 ≠ 0 ∨
        p.offCounter = p.offCompare ∨ p.quantumBoot = p.quantumSteady ∨
        (p.consoleAddr - (p.timerBase + p.offCounter)).toNat < 8 ∨
        (p.consoleAddr - (p.timerBase + p.offCompare)).toNat < 8)) ∧
    ∀ s, configure p d = some s → s = State.resetWith p d

/-- R6, R40, R43, R46 at reset: the parameters `State.reset` has meet the constraints, the two quanta and the console
port among them. The model's choice in it (log 1, log 14, log 22): they are the free parameters through
`acceptParams`, which gives accepted configurations only, keeps each of them, and changes nothing but the two offsets, the
console port and the steady quantum. R7: the two switches have the values it decides (D8, D9). -/
def Obligations.ResetConfigurationIsAccepted : Prop :=
  configure resetParams ResetDraw.zero = some State.reset ∧
  State.reset.params = acceptParams Config.params ∧
  State.reset.params.bootAdvance = false ∧ State.reset.params.csrReadClears = true ∧
  State.reset.params.quantumBoot ≠ State.reset.params.quantumSteady ∧
  (∀ r : TimerReg, 8 ≤ (State.reset.params.consoleAddr - timerAddr State.reset.params r).toNat) ∧
  ∀ p : Params, configAccepted (acceptParams p) = true ∧
    (configAccepted p = true → acceptParams p = p) ∧
    acceptParams p = { p with
      offCounter := (acceptParams p).offCounter, offCompare := (acceptParams p).offCompare,
      consoleAddr := (acceptParams p).consoleAddr,
      quantumSteady := (acceptParams p).quantumSteady }
end

