-- ==== Sys2Proof/Laws/Bits.lean ====
section
/-! SUPPORT. The bit access primitives bit by bit, and the decode of a cause word as arithmetic. -/

namespace Sys2Proof.Machine

theorem getLsbD_setBit (v : Word) (b i : Nat) :
    (setBit v b).getLsbD i = (v.getLsbD i || (decide (b < xlen) && decide (b = i))) := by
  simp [setBit, BitVec.getLsbD_or, BitVec.getLsbD_twoPow]

theorem getLsbD_clearBit (v : Word) (b i : Nat) :
    (clearBit v b).getLsbD i = (v.getLsbD i && !decide (b = i)) := by
  by_cases hi : i < xlen
  · simp [clearBit, BitVec.getLsbD_and, BitVec.getLsbD_not, BitVec.getLsbD_twoPow, hi,
      -BitVec.getLsbD_eq_getElem]
    by_cases hb : b = i <;> simp [hb, hi]
  · simp [clearBit, BitVec.getLsbD_of_ge _ _ (Nat.le_of_not_lt hi)]

/-- The bit set is set. -/
theorem getLsbD_setBit_self {b : Nat} (v : Word) (hb : b < xlen) : (setBit v b).getLsbD b = true := by
  simp [getLsbD_setBit, hb]

/-- Every other bit is kept. -/
theorem getLsbD_setBit_of_ne {b i : Nat} (v : Word) (h : i ≠ b) :
    (setBit v b).getLsbD i = v.getLsbD i := by
  simp [getLsbD_setBit, Ne.symm h]

/-- The bit cleared is clear. -/
theorem getLsbD_clearBit_self (v : Word) (b : Nat) : (clearBit v b).getLsbD b = false := by
  simp [getLsbD_clearBit]

/-- Every other bit is kept. -/
theorem getLsbD_clearBit_of_ne {b i : Nat} (v : Word) (h : i ≠ b) :
    (clearBit v b).getLsbD i = v.getLsbD i := by
  simp [getLsbD_clearBit, Ne.symm h]

/-- Clearing then setting a bit only sets it: DI's effect is absorbed by the later EI. -/
theorem setBit_clearBit (v : Word) {b : Nat} (hb : b < xlen) :
    setBit (clearBit v b) b = setBit v b := by
  apply BitVec.eq_of_getLsbD_eq
  intro i _
  rw [getLsbD_setBit, getLsbD_setBit, getLsbD_clearBit]
  by_cases h : b = i
  · subst h; simp [hb]
  · simp [h]

end Sys2Proof.Machine
end

