-- ==== Sys2Proof/Laws/Configuration.lean ====
section
/-! SUPPORT. What rounding an address, the constraints and a configuration held to them say. -/

namespace Sys2Proof.Machine

/-- A rounded address is a multiple of 8. -/
theorem alignAddr_mod (a : Word) : (alignAddr a).toNat % 8 = 0 := by
  simp [alignAddr, BitVec.toNat_shiftLeft, BitVec.toNat_ushiftRight, Nat.shiftLeft_eq,
    Nat.shiftRight_eq_div_pow, xlen]

/-- Rounding keeps a multiple of 8. -/
theorem alignAddr_of_mod {a : Word} (h : a.toNat % 8 = 0) : alignAddr a = a := by
  apply BitVec.eq_of_toNat_eq
  have := a.isLt
  unfold xlen at this
  simp [alignAddr, BitVec.toNat_shiftLeft, BitVec.toNat_ushiftRight, Nat.shiftLeft_eq,
    Nat.shiftRight_eq_div_pow, xlen]
  omega

/-- The distance of two addresses as a comparison of numbers, with the wrap modulo 2^64. -/
theorem eight_le_toNat_sub (a b : Word) : 8 ≤ (a - b).toNat ↔
    b.toNat + 8 ≤ a.toNat ∨ (a.toNat < b.toNat ∧ 8 ≤ a.toNat + 2 ^ 64 - b.toNat) := by
  have := a.isLt
  have := b.isLt
  unfold xlen at *
  rw [BitVec.toNat_sub]
  omega

/-- An address is apart from the timer registers when it is none of the 8 bytes of either. -/
theorem onTimer_eq_false (p : Params) (a : Word) : onTimer p a = false ↔
    8 ≤ (a - timerAddr p .counter).toNat ∧ 8 ≤ (a - timerAddr p .compare).toNat := by
  simp [onTimer]

/-- The constraints as propositions. -/
theorem configAccepted_iff (p : Params) : configAccepted p = true ↔
    (timerAddr p .counter).toNat % 8 = 0 ∧ (timerAddr p .compare).toNat % 8 = 0 ∧
      p.offCounter ≠ p.offCompare ∧ onTimer p p.consoleAddr = false ∧
      p.quantumBoot ≠ p.quantumSteady := by
  simp [configAccepted, and_assoc]

/-- An offset is what takes the base to its address. -/
theorem base_add_offset (base addr : Word) : base + (addr - base) = addr := by
  rw [BitVec.add_comm, BitVec.sub_add_cancel]

theorem timerAddr_acceptTimer_counter (p : Params) :
    timerAddr (acceptTimer p) .counter = alignAddr (timerAddr p .counter) :=
  base_add_offset _ _

theorem timerAddr_acceptTimer_compare (p : Params) :
    timerAddr (acceptTimer p) .compare =
      if alignAddr (timerAddr p .compare) = alignAddr (timerAddr p .counter) then
        alignAddr (timerAddr p .compare) + 8
      else alignAddr (timerAddr p .compare) :=
  base_add_offset _ _

/-- `acceptTimer` alone decides the timer addresses. -/
@[simp] theorem timerAddr_acceptParams (p : Params) (r : TimerReg) :
    timerAddr (acceptParams p) r = timerAddr (acceptTimer p) r := by
  cases r <;> rfl

@[simp] theorem onTimer_acceptParams (p : Params) (a : Word) :
    onTimer (acceptParams p) a = onTimer (acceptTimer p) a := by
  simp [onTimer]

end Sys2Proof.Machine
end

