-- ==== Sys2Proof/Laws/State.lean ====
section
/-! SUPPORT. What each state update leaves in each field, one lemma per field, so that no later proof unfolds a
record update. -/

namespace Sys2Proof.Machine

/-! ### `latch` -/

@[simp] theorem latch_tt (f : ModelFault) (s : State) :
    (latch f s).tt = s.tt := rfl
@[simp] theorem latch_cur (f : ModelFault) (s : State) :
    (latch f s).cur = s.cur := rfl
@[simp] theorem latch_init (f : ModelFault) (s : State) :
    (latch f s).init = s.init := rfl
@[simp] theorem latch_snap (f : ModelFault) (s : State) :
    (latch f s).snap = s.snap := rfl
@[simp] theorem latch_mstatus (f : ModelFault) (s : State) :
    (latch f s).mstatus = s.mstatus := rfl
@[simp] theorem latch_mie (f : ModelFault) (s : State) :
    (latch f s).mie = s.mie := rfl
@[simp] theorem latch_mtvec (f : ModelFault) (s : State) :
    (latch f s).mtvec = s.mtvec := rfl
@[simp] theorem latch_mvendorid (f : ModelFault) (s : State) :
    (latch f s).mvendorid = s.mvendorid := rfl
@[simp] theorem latch_marchid (f : ModelFault) (s : State) :
    (latch f s).marchid = s.marchid := rfl
@[simp] theorem latch_mtime (f : ModelFault) (s : State) :
    (latch f s).mtime = s.mtime := rfl
@[simp] theorem latch_mtimecmp (f : ModelFault) (s : State) :
    (latch f s).mtimecmp = s.mtimecmp := rfl
@[simp] theorem latch_phase (f : ModelFault) (s : State) :
    (latch f s).phase = s.phase := rfl
@[simp] theorem latch_fault (f : ModelFault) (s : State) :
    (latch f s).fault = some f := rfl
@[simp] theorem latch_x (f : ModelFault) (s : State) :
    (latch f s).x = s.x := rfl
@[simp] theorem latch_pc (f : ModelFault) (s : State) :
    (latch f s).pc = s.pc := rfl
@[simp] theorem latch_diag (f : ModelFault) (s : State) :
    (latch f s).diag = s.diag := rfl
@[simp] theorem latch_cmdResp (f : ModelFault) (s : State) :
    (latch f s).cmdResp = s.cmdResp := rfl
@[simp] theorem latch_trapResp (f : ModelFault) (s : State) :
    (latch f s).trapResp = s.trapResp := rfl
@[simp] theorem latch_turns (f : ModelFault) (s : State) :
    (latch f s).turns = s.turns := rfl
@[simp] theorem latch_draws (f : ModelFault) (s : State) :
    (latch f s).draws = s.draws := rfl
@[simp] theorem latch_params (f : ModelFault) (s : State) :
    (latch f s).params = s.params := rfl

/-! ### `respond` -/

@[simp] theorem respond_tt (v : Option Word) (s : State) :
    (respond v s).tt = s.tt := rfl
@[simp] theorem respond_cur (v : Option Word) (s : State) :
    (respond v s).cur = s.cur := rfl
@[simp] theorem respond_init (v : Option Word) (s : State) :
    (respond v s).init = s.init := rfl
@[simp] theorem respond_snap (v : Option Word) (s : State) :
    (respond v s).snap = s.snap := rfl
@[simp] theorem respond_mstatus (v : Option Word) (s : State) :
    (respond v s).mstatus = s.mstatus := rfl
@[simp] theorem respond_mie (v : Option Word) (s : State) :
    (respond v s).mie = s.mie := rfl
@[simp] theorem respond_mtvec (v : Option Word) (s : State) :
    (respond v s).mtvec = s.mtvec := rfl
@[simp] theorem respond_mvendorid (v : Option Word) (s : State) :
    (respond v s).mvendorid = s.mvendorid := rfl
@[simp] theorem respond_marchid (v : Option Word) (s : State) :
    (respond v s).marchid = s.marchid := rfl
@[simp] theorem respond_mtime (v : Option Word) (s : State) :
    (respond v s).mtime = s.mtime := rfl
@[simp] theorem respond_mtimecmp (v : Option Word) (s : State) :
    (respond v s).mtimecmp = s.mtimecmp := rfl
@[simp] theorem respond_phase (v : Option Word) (s : State) :
    (respond v s).phase = s.phase := rfl
@[simp] theorem respond_fault (v : Option Word) (s : State) :
    (respond v s).fault = s.fault := rfl
@[simp] theorem respond_x (v : Option Word) (s : State) :
    (respond v s).x = s.x := rfl
@[simp] theorem respond_pc (v : Option Word) (s : State) :
    (respond v s).pc = s.pc := rfl
@[simp] theorem respond_diag (v : Option Word) (s : State) :
    (respond v s).diag = s.diag := rfl
@[simp] theorem respond_cmdResp (v : Option Word) (s : State) :
    (respond v s).cmdResp = v := rfl
@[simp] theorem respond_trapResp (v : Option Word) (s : State) :
    (respond v s).trapResp = s.trapResp := rfl
@[simp] theorem respond_turns (v : Option Word) (s : State) :
    (respond v s).turns = s.turns := rfl
@[simp] theorem respond_draws (v : Option Word) (s : State) :
    (respond v s).draws = s.draws := rfl
@[simp] theorem respond_params (v : Option Word) (s : State) :
    (respond v s).params = s.params := rfl

/-! ### `respondTrap` -/

@[simp] theorem respondTrap_tt (v : Option Word) (s : State) :
    (respondTrap v s).tt = s.tt := rfl
@[simp] theorem respondTrap_cur (v : Option Word) (s : State) :
    (respondTrap v s).cur = s.cur := rfl
@[simp] theorem respondTrap_init (v : Option Word) (s : State) :
    (respondTrap v s).init = s.init := rfl
@[simp] theorem respondTrap_snap (v : Option Word) (s : State) :
    (respondTrap v s).snap = s.snap := rfl
@[simp] theorem respondTrap_mstatus (v : Option Word) (s : State) :
    (respondTrap v s).mstatus = s.mstatus := rfl
@[simp] theorem respondTrap_mie (v : Option Word) (s : State) :
    (respondTrap v s).mie = s.mie := rfl
@[simp] theorem respondTrap_mtvec (v : Option Word) (s : State) :
    (respondTrap v s).mtvec = s.mtvec := rfl
@[simp] theorem respondTrap_mvendorid (v : Option Word) (s : State) :
    (respondTrap v s).mvendorid = s.mvendorid := rfl
@[simp] theorem respondTrap_marchid (v : Option Word) (s : State) :
    (respondTrap v s).marchid = s.marchid := rfl
@[simp] theorem respondTrap_mtime (v : Option Word) (s : State) :
    (respondTrap v s).mtime = s.mtime := rfl
@[simp] theorem respondTrap_mtimecmp (v : Option Word) (s : State) :
    (respondTrap v s).mtimecmp = s.mtimecmp := rfl
@[simp] theorem respondTrap_phase (v : Option Word) (s : State) :
    (respondTrap v s).phase = s.phase := rfl
@[simp] theorem respondTrap_fault (v : Option Word) (s : State) :
    (respondTrap v s).fault = s.fault := rfl
@[simp] theorem respondTrap_x (v : Option Word) (s : State) :
    (respondTrap v s).x = s.x := rfl
@[simp] theorem respondTrap_pc (v : Option Word) (s : State) :
    (respondTrap v s).pc = s.pc := rfl
@[simp] theorem respondTrap_diag (v : Option Word) (s : State) :
    (respondTrap v s).diag = s.diag := rfl
@[simp] theorem respondTrap_cmdResp (v : Option Word) (s : State) :
    (respondTrap v s).cmdResp = s.cmdResp := rfl
@[simp] theorem respondTrap_trapResp (v : Option Word) (s : State) :
    (respondTrap v s).trapResp = v := rfl
@[simp] theorem respondTrap_turns (v : Option Word) (s : State) :
    (respondTrap v s).turns = s.turns := rfl
@[simp] theorem respondTrap_draws (v : Option Word) (s : State) :
    (respondTrap v s).draws = s.draws := rfl
@[simp] theorem respondTrap_params (v : Option Word) (s : State) :
    (respondTrap v s).params = s.params := rfl

/-! ### `writeCompare` -/

@[simp] theorem writeCompare_tt (v : U64) (s : State) :
    (writeCompare v s).tt = s.tt := rfl
@[simp] theorem writeCompare_cur (v : U64) (s : State) :
    (writeCompare v s).cur = s.cur := rfl
@[simp] theorem writeCompare_init (v : U64) (s : State) :
    (writeCompare v s).init = s.init := rfl
@[simp] theorem writeCompare_snap (v : U64) (s : State) :
    (writeCompare v s).snap = s.snap := rfl
@[simp] theorem writeCompare_mstatus (v : U64) (s : State) :
    (writeCompare v s).mstatus = s.mstatus := rfl
@[simp] theorem writeCompare_mie (v : U64) (s : State) :
    (writeCompare v s).mie = s.mie := rfl
@[simp] theorem writeCompare_mtvec (v : U64) (s : State) :
    (writeCompare v s).mtvec = s.mtvec := rfl
@[simp] theorem writeCompare_mvendorid (v : U64) (s : State) :
    (writeCompare v s).mvendorid = s.mvendorid := rfl
@[simp] theorem writeCompare_marchid (v : U64) (s : State) :
    (writeCompare v s).marchid = s.marchid := rfl
@[simp] theorem writeCompare_mtime (v : U64) (s : State) :
    (writeCompare v s).mtime = s.mtime := rfl
@[simp] theorem writeCompare_mtimecmp (v : U64) (s : State) :
    (writeCompare v s).mtimecmp = v := rfl
@[simp] theorem writeCompare_phase (v : U64) (s : State) :
    (writeCompare v s).phase = s.phase := rfl
@[simp] theorem writeCompare_fault (v : U64) (s : State) :
    (writeCompare v s).fault = s.fault := rfl
@[simp] theorem writeCompare_x (v : U64) (s : State) :
    (writeCompare v s).x = s.x := rfl
@[simp] theorem writeCompare_pc (v : U64) (s : State) :
    (writeCompare v s).pc = s.pc := rfl
@[simp] theorem writeCompare_diag (v : U64) (s : State) :
    (writeCompare v s).diag = s.diag := rfl
@[simp] theorem writeCompare_cmdResp (v : U64) (s : State) :
    (writeCompare v s).cmdResp = s.cmdResp := rfl
@[simp] theorem writeCompare_trapResp (v : U64) (s : State) :
    (writeCompare v s).trapResp = s.trapResp := rfl
@[simp] theorem writeCompare_turns (v : U64) (s : State) :
    (writeCompare v s).turns = s.turns := rfl
@[simp] theorem writeCompare_draws (v : U64) (s : State) :
    (writeCompare v s).draws = s.draws := rfl
@[simp] theorem writeCompare_params (v : U64) (s : State) :
    (writeCompare v s).params = s.params := rfl

/-! ### `writeAllX` -/

@[simp] theorem writeAllX_tt (v : Vector Word nGpr) (s : State) :
    (writeAllX v s).tt = s.tt := rfl
@[simp] theorem writeAllX_cur (v : Vector Word nGpr) (s : State) :
    (writeAllX v s).cur = s.cur := rfl
@[simp] theorem writeAllX_init (v : Vector Word nGpr) (s : State) :
    (writeAllX v s).init = s.init := rfl
@[simp] theorem writeAllX_snap (v : Vector Word nGpr) (s : State) :
    (writeAllX v s).snap = s.snap := rfl
@[simp] theorem writeAllX_mstatus (v : Vector Word nGpr) (s : State) :
    (writeAllX v s).mstatus = s.mstatus := rfl
@[simp] theorem writeAllX_mie (v : Vector Word nGpr) (s : State) :
    (writeAllX v s).mie = s.mie := rfl
@[simp] theorem writeAllX_mtvec (v : Vector Word nGpr) (s : State) :
    (writeAllX v s).mtvec = s.mtvec := rfl
@[simp] theorem writeAllX_mvendorid (v : Vector Word nGpr) (s : State) :
    (writeAllX v s).mvendorid = s.mvendorid := rfl
@[simp] theorem writeAllX_marchid (v : Vector Word nGpr) (s : State) :
    (writeAllX v s).marchid = s.marchid := rfl
@[simp] theorem writeAllX_mtime (v : Vector Word nGpr) (s : State) :
    (writeAllX v s).mtime = s.mtime := rfl
@[simp] theorem writeAllX_mtimecmp (v : Vector Word nGpr) (s : State) :
    (writeAllX v s).mtimecmp = s.mtimecmp := rfl
@[simp] theorem writeAllX_phase (v : Vector Word nGpr) (s : State) :
    (writeAllX v s).phase = s.phase := rfl
@[simp] theorem writeAllX_fault (v : Vector Word nGpr) (s : State) :
    (writeAllX v s).fault = s.fault := rfl
@[simp] theorem writeAllX_x (v : Vector Word nGpr) (s : State) :
    (writeAllX v s).x = v.set 0 s.x[0] := rfl
@[simp] theorem writeAllX_pc (v : Vector Word nGpr) (s : State) :
    (writeAllX v s).pc = s.pc := rfl
@[simp] theorem writeAllX_diag (v : Vector Word nGpr) (s : State) :
    (writeAllX v s).diag = s.diag := rfl
@[simp] theorem writeAllX_cmdResp (v : Vector Word nGpr) (s : State) :
    (writeAllX v s).cmdResp = s.cmdResp := rfl
@[simp] theorem writeAllX_trapResp (v : Vector Word nGpr) (s : State) :
    (writeAllX v s).trapResp = s.trapResp := rfl
@[simp] theorem writeAllX_turns (v : Vector Word nGpr) (s : State) :
    (writeAllX v s).turns = s.turns := rfl
@[simp] theorem writeAllX_draws (v : Vector Word nGpr) (s : State) :
    (writeAllX v s).draws = s.draws := rfl
@[simp] theorem writeAllX_params (v : Vector Word nGpr) (s : State) :
    (writeAllX v s).params = s.params := rfl

/-! ### `capture` -/

@[simp] theorem capture_tt (s : State) :
    (capture s).tt = s.tt := rfl
@[simp] theorem capture_cur (s : State) :
    (capture s).cur = s.cur := rfl
@[simp] theorem capture_init (s : State) :
    (capture s).init = s.init := rfl
@[simp] theorem capture_snap (s : State) :
    (capture s).snap = { s.snap with gpr := readAllX s } := rfl
@[simp] theorem capture_mstatus (s : State) :
    (capture s).mstatus = s.mstatus := rfl
@[simp] theorem capture_mie (s : State) :
    (capture s).mie = s.mie := rfl
@[simp] theorem capture_mtvec (s : State) :
    (capture s).mtvec = s.mtvec := rfl
@[simp] theorem capture_mvendorid (s : State) :
    (capture s).mvendorid = s.mvendorid := rfl
@[simp] theorem capture_marchid (s : State) :
    (capture s).marchid = s.marchid := rfl
@[simp] theorem capture_mtime (s : State) :
    (capture s).mtime = s.mtime := rfl
@[simp] theorem capture_mtimecmp (s : State) :
    (capture s).mtimecmp = s.mtimecmp := rfl
@[simp] theorem capture_phase (s : State) :
    (capture s).phase = s.phase := rfl
@[simp] theorem capture_fault (s : State) :
    (capture s).fault = s.fault := rfl
@[simp] theorem capture_x (s : State) :
    (capture s).x = s.x := rfl
@[simp] theorem capture_pc (s : State) :
    (capture s).pc = s.pc := rfl
@[simp] theorem capture_diag (s : State) :
    (capture s).diag = s.diag := rfl
@[simp] theorem capture_cmdResp (s : State) :
    (capture s).cmdResp = s.cmdResp := rfl
@[simp] theorem capture_trapResp (s : State) :
    (capture s).trapResp = s.trapResp := rfl
@[simp] theorem capture_turns (s : State) :
    (capture s).turns = s.turns := rfl
@[simp] theorem capture_draws (s : State) :
    (capture s).draws = s.draws := rfl
@[simp] theorem capture_params (s : State) :
    (capture s).params = s.params := rfl

/-! ### `enableInterrupts` -/

@[simp] theorem enableInterrupts_tt (s : State) :
    (enableInterrupts s).tt = s.tt := rfl
@[simp] theorem enableInterrupts_cur (s : State) :
    (enableInterrupts s).cur = s.cur := rfl
@[simp] theorem enableInterrupts_init (s : State) :
    (enableInterrupts s).init = s.init := rfl
@[simp] theorem enableInterrupts_snap (s : State) :
    (enableInterrupts s).snap = s.snap := rfl
@[simp] theorem enableInterrupts_mstatus (s : State) :
    (enableInterrupts s).mstatus = setBit s.mstatus mieBit := rfl
@[simp] theorem enableInterrupts_mie (s : State) :
    (enableInterrupts s).mie = setBit s.mie mtieBit := rfl
@[simp] theorem enableInterrupts_mtvec (s : State) :
    (enableInterrupts s).mtvec = s.params.trapEntry := rfl
@[simp] theorem enableInterrupts_mvendorid (s : State) :
    (enableInterrupts s).mvendorid = s.mvendorid := rfl
@[simp] theorem enableInterrupts_marchid (s : State) :
    (enableInterrupts s).marchid = s.marchid := rfl
@[simp] theorem enableInterrupts_mtime (s : State) :
    (enableInterrupts s).mtime = s.mtime := rfl
@[simp] theorem enableInterrupts_mtimecmp (s : State) :
    (enableInterrupts s).mtimecmp = s.mtimecmp := rfl
@[simp] theorem enableInterrupts_phase (s : State) :
    (enableInterrupts s).phase = s.phase := rfl
@[simp] theorem enableInterrupts_fault (s : State) :
    (enableInterrupts s).fault = s.fault := rfl
@[simp] theorem enableInterrupts_x (s : State) :
    (enableInterrupts s).x = s.x := rfl
@[simp] theorem enableInterrupts_pc (s : State) :
    (enableInterrupts s).pc = s.pc := rfl
@[simp] theorem enableInterrupts_diag (s : State) :
    (enableInterrupts s).diag = s.diag := rfl
@[simp] theorem enableInterrupts_cmdResp (s : State) :
    (enableInterrupts s).cmdResp = s.cmdResp := rfl
@[simp] theorem enableInterrupts_trapResp (s : State) :
    (enableInterrupts s).trapResp = s.trapResp := rfl
@[simp] theorem enableInterrupts_turns (s : State) :
    (enableInterrupts s).turns = s.turns := rfl
@[simp] theorem enableInterrupts_draws (s : State) :
    (enableInterrupts s).draws = s.draws := rfl
@[simp] theorem enableInterrupts_params (s : State) :
    (enableInterrupts s).params = s.params := rfl

/-! ### `disableInterrupts` -/

@[simp] theorem disableInterrupts_tt (s : State) :
    (disableInterrupts s).tt = s.tt := rfl
@[simp] theorem disableInterrupts_cur (s : State) :
    (disableInterrupts s).cur = s.cur := rfl
@[simp] theorem disableInterrupts_init (s : State) :
    (disableInterrupts s).init = s.init := rfl
@[simp] theorem disableInterrupts_snap (s : State) :
    (disableInterrupts s).snap = s.snap := rfl
@[simp] theorem disableInterrupts_mstatus (s : State) :
    (disableInterrupts s).mstatus = clearBit s.mstatus mieBit := rfl
@[simp] theorem disableInterrupts_mie (s : State) :
    (disableInterrupts s).mie = clearBit s.mie mtieBit := rfl
@[simp] theorem disableInterrupts_mtvec (s : State) :
    (disableInterrupts s).mtvec = s.mtvec := rfl
@[simp] theorem disableInterrupts_mvendorid (s : State) :
    (disableInterrupts s).mvendorid = s.mvendorid := rfl
@[simp] theorem disableInterrupts_marchid (s : State) :
    (disableInterrupts s).marchid = s.marchid := rfl
@[simp] theorem disableInterrupts_mtime (s : State) :
    (disableInterrupts s).mtime = s.mtime := rfl
@[simp] theorem disableInterrupts_mtimecmp (s : State) :
    (disableInterrupts s).mtimecmp = s.mtimecmp := rfl
@[simp] theorem disableInterrupts_phase (s : State) :
    (disableInterrupts s).phase = s.phase := rfl
@[simp] theorem disableInterrupts_fault (s : State) :
    (disableInterrupts s).fault = s.fault := rfl
@[simp] theorem disableInterrupts_x (s : State) :
    (disableInterrupts s).x = s.x := rfl
@[simp] theorem disableInterrupts_pc (s : State) :
    (disableInterrupts s).pc = s.pc := rfl
@[simp] theorem disableInterrupts_diag (s : State) :
    (disableInterrupts s).diag = s.diag := rfl
@[simp] theorem disableInterrupts_cmdResp (s : State) :
    (disableInterrupts s).cmdResp = s.cmdResp := rfl
@[simp] theorem disableInterrupts_trapResp (s : State) :
    (disableInterrupts s).trapResp = s.trapResp := rfl
@[simp] theorem disableInterrupts_turns (s : State) :
    (disableInterrupts s).turns = s.turns := rfl
@[simp] theorem disableInterrupts_draws (s : State) :
    (disableInterrupts s).draws = s.draws := rfl
@[simp] theorem disableInterrupts_params (s : State) :
    (disableInterrupts s).params = s.params := rfl

/-! ### `jump` -/

@[simp] theorem jump_tt (w : Word) (s : State) :
    (jump w s).tt = s.tt := rfl
@[simp] theorem jump_cur (w : Word) (s : State) :
    (jump w s).cur = s.cur := rfl
@[simp] theorem jump_init (w : Word) (s : State) :
    (jump w s).init = s.init := rfl
@[simp] theorem jump_snap (w : Word) (s : State) :
    (jump w s).snap = s.snap := rfl
@[simp] theorem jump_mstatus (w : Word) (s : State) :
    (jump w s).mstatus = s.mstatus := rfl
@[simp] theorem jump_mie (w : Word) (s : State) :
    (jump w s).mie = s.mie := rfl
@[simp] theorem jump_mtvec (w : Word) (s : State) :
    (jump w s).mtvec = s.mtvec := rfl
@[simp] theorem jump_mvendorid (w : Word) (s : State) :
    (jump w s).mvendorid = s.mvendorid := rfl
@[simp] theorem jump_marchid (w : Word) (s : State) :
    (jump w s).marchid = s.marchid := rfl
@[simp] theorem jump_mtime (w : Word) (s : State) :
    (jump w s).mtime = s.mtime := rfl
@[simp] theorem jump_mtimecmp (w : Word) (s : State) :
    (jump w s).mtimecmp = s.mtimecmp := rfl
@[simp] theorem jump_phase (w : Word) (s : State) :
    (jump w s).phase = s.phase := rfl
@[simp] theorem jump_fault (w : Word) (s : State) :
    (jump w s).fault = s.fault := rfl
@[simp] theorem jump_x (w : Word) (s : State) :
    (jump w s).x = s.x := rfl
@[simp] theorem jump_pc (w : Word) (s : State) :
    (jump w s).pc = w := rfl
@[simp] theorem jump_diag (w : Word) (s : State) :
    (jump w s).diag = s.diag := rfl
@[simp] theorem jump_cmdResp (w : Word) (s : State) :
    (jump w s).cmdResp = s.cmdResp := rfl
@[simp] theorem jump_trapResp (w : Word) (s : State) :
    (jump w s).trapResp = some w := rfl
@[simp] theorem jump_turns (w : Word) (s : State) :
    (jump w s).turns = s.turns := rfl
@[simp] theorem jump_draws (w : Word) (s : State) :
    (jump w s).draws = s.draws := rfl
@[simp] theorem jump_params (w : Word) (s : State) :
    (jump w s).params = s.params := rfl

/-! ### `emitFatal` -/

@[simp] theorem emitFatal_tt (w : Word) (s : State) :
    (emitFatal w s).tt = s.tt := rfl
@[simp] theorem emitFatal_cur (w : Word) (s : State) :
    (emitFatal w s).cur = s.cur := rfl
@[simp] theorem emitFatal_init (w : Word) (s : State) :
    (emitFatal w s).init = s.init := rfl
@[simp] theorem emitFatal_snap (w : Word) (s : State) :
    (emitFatal w s).snap = s.snap := rfl
@[simp] theorem emitFatal_mstatus (w : Word) (s : State) :
    (emitFatal w s).mstatus = s.mstatus := rfl
@[simp] theorem emitFatal_mie (w : Word) (s : State) :
    (emitFatal w s).mie = s.mie := rfl
@[simp] theorem emitFatal_mtvec (w : Word) (s : State) :
    (emitFatal w s).mtvec = s.mtvec := rfl
@[simp] theorem emitFatal_mvendorid (w : Word) (s : State) :
    (emitFatal w s).mvendorid = s.mvendorid := rfl
@[simp] theorem emitFatal_marchid (w : Word) (s : State) :
    (emitFatal w s).marchid = s.marchid := rfl
@[simp] theorem emitFatal_mtime (w : Word) (s : State) :
    (emitFatal w s).mtime = s.mtime := rfl
@[simp] theorem emitFatal_mtimecmp (w : Word) (s : State) :
    (emitFatal w s).mtimecmp = s.mtimecmp := rfl
@[simp] theorem emitFatal_phase (w : Word) (s : State) :
    (emitFatal w s).phase = s.phase := rfl
@[simp] theorem emitFatal_fault (w : Word) (s : State) :
    (emitFatal w s).fault = s.fault := rfl
@[simp] theorem emitFatal_x (w : Word) (s : State) :
    (emitFatal w s).x = s.x := rfl
@[simp] theorem emitFatal_pc (w : Word) (s : State) :
    (emitFatal w s).pc = s.pc := rfl
@[simp] theorem emitFatal_diag (w : Word) (s : State) :
    (emitFatal w s).diag = s.diag ++ [⟨w, Config.diagMarker s.snap⟩] := rfl
@[simp] theorem emitFatal_cmdResp (w : Word) (s : State) :
    (emitFatal w s).cmdResp = s.cmdResp := rfl
@[simp] theorem emitFatal_trapResp (w : Word) (s : State) :
    (emitFatal w s).trapResp = s.trapResp := rfl
@[simp] theorem emitFatal_turns (w : Word) (s : State) :
    (emitFatal w s).turns = s.turns := rfl
@[simp] theorem emitFatal_draws (w : Word) (s : State) :
    (emitFatal w s).draws = s.draws := rfl
@[simp] theorem emitFatal_params (w : Word) (s : State) :
    (emitFatal w s).params = s.params := rfl

/-! ### `enterFatal` -/

@[simp] theorem enterFatal_tt (w : Word) (s : State) :
    (enterFatal w s).tt = s.tt := rfl
@[simp] theorem enterFatal_cur (w : Word) (s : State) :
    (enterFatal w s).cur = s.cur := rfl
@[simp] theorem enterFatal_init (w : Word) (s : State) :
    (enterFatal w s).init = s.init := rfl
@[simp] theorem enterFatal_snap (w : Word) (s : State) :
    (enterFatal w s).snap = s.snap := rfl
@[simp] theorem enterFatal_mstatus (w : Word) (s : State) :
    (enterFatal w s).mstatus = s.mstatus := rfl
@[simp] theorem enterFatal_mie (w : Word) (s : State) :
    (enterFatal w s).mie = s.mie := rfl
@[simp] theorem enterFatal_mtvec (w : Word) (s : State) :
    (enterFatal w s).mtvec = s.mtvec := rfl
@[simp] theorem enterFatal_mvendorid (w : Word) (s : State) :
    (enterFatal w s).mvendorid = s.mvendorid := rfl
@[simp] theorem enterFatal_marchid (w : Word) (s : State) :
    (enterFatal w s).marchid = s.marchid := rfl
@[simp] theorem enterFatal_mtime (w : Word) (s : State) :
    (enterFatal w s).mtime = s.mtime := rfl
@[simp] theorem enterFatal_mtimecmp (w : Word) (s : State) :
    (enterFatal w s).mtimecmp = s.mtimecmp := rfl
@[simp] theorem enterFatal_phase (w : Word) (s : State) :
    (enterFatal w s).phase = .fatal := rfl
@[simp] theorem enterFatal_fault (w : Word) (s : State) :
    (enterFatal w s).fault = s.fault := rfl
@[simp] theorem enterFatal_x (w : Word) (s : State) :
    (enterFatal w s).x = s.x := rfl
@[simp] theorem enterFatal_pc (w : Word) (s : State) :
    (enterFatal w s).pc = s.pc := rfl
@[simp] theorem enterFatal_diag (w : Word) (s : State) :
    (enterFatal w s).diag = s.diag ++ [⟨w, Config.diagMarker s.snap⟩] := rfl
@[simp] theorem enterFatal_cmdResp (w : Word) (s : State) :
    (enterFatal w s).cmdResp = s.cmdResp := rfl
@[simp] theorem enterFatal_trapResp (w : Word) (s : State) :
    (enterFatal w s).trapResp = none := rfl
@[simp] theorem enterFatal_turns (w : Word) (s : State) :
    (enterFatal w s).turns = s.turns := rfl
@[simp] theorem enterFatal_draws (w : Word) (s : State) :
    (enterFatal w s).draws = s.draws := rfl
@[simp] theorem enterFatal_params (w : Word) (s : State) :
    (enterFatal w s).params = s.params := rfl

/-! ### `save` -/

@[simp] theorem save_tt (w : Word) (s : State) :
    (save w s).tt = s.tt.set s.cur { s.tt[s.cur] with rf := s.snap, pc := w } := rfl
@[simp] theorem save_cur (w : Word) (s : State) :
    (save w s).cur = s.cur := rfl
@[simp] theorem save_init (w : Word) (s : State) :
    (save w s).init = s.init := rfl
@[simp] theorem save_snap (w : Word) (s : State) :
    (save w s).snap = s.snap := rfl
@[simp] theorem save_mstatus (w : Word) (s : State) :
    (save w s).mstatus = s.mstatus := rfl
@[simp] theorem save_mie (w : Word) (s : State) :
    (save w s).mie = s.mie := rfl
@[simp] theorem save_mtvec (w : Word) (s : State) :
    (save w s).mtvec = s.mtvec := rfl
@[simp] theorem save_mvendorid (w : Word) (s : State) :
    (save w s).mvendorid = s.mvendorid := rfl
@[simp] theorem save_marchid (w : Word) (s : State) :
    (save w s).marchid = s.marchid := rfl
@[simp] theorem save_mtime (w : Word) (s : State) :
    (save w s).mtime = s.mtime := rfl
@[simp] theorem save_mtimecmp (w : Word) (s : State) :
    (save w s).mtimecmp = s.mtimecmp := rfl
@[simp] theorem save_phase (w : Word) (s : State) :
    (save w s).phase = s.phase := rfl
@[simp] theorem save_fault (w : Word) (s : State) :
    (save w s).fault = s.fault := rfl
@[simp] theorem save_x (w : Word) (s : State) :
    (save w s).x = s.x := rfl
@[simp] theorem save_pc (w : Word) (s : State) :
    (save w s).pc = s.pc := rfl
@[simp] theorem save_diag (w : Word) (s : State) :
    (save w s).diag = s.diag := rfl
@[simp] theorem save_cmdResp (w : Word) (s : State) :
    (save w s).cmdResp = s.cmdResp := rfl
@[simp] theorem save_trapResp (w : Word) (s : State) :
    (save w s).trapResp = s.trapResp := rfl
@[simp] theorem save_turns (w : Word) (s : State) :
    (save w s).turns = s.turns := rfl
@[simp] theorem save_draws (w : Word) (s : State) :
    (save w s).draws = s.draws := rfl
@[simp] theorem save_params (w : Word) (s : State) :
    (save w s).params = s.params := rfl

/-! ### `rotate` -/

@[simp] theorem rotate_tt (s : State) :
    (rotate s).tt = s.tt := rfl
@[simp] theorem rotate_cur (s : State) :
    (rotate s).cur = nextCursor s.cur := rfl
@[simp] theorem rotate_init (s : State) :
    (rotate s).init = s.init := rfl
@[simp] theorem rotate_snap (s : State) :
    (rotate s).snap = s.snap := rfl
@[simp] theorem rotate_mstatus (s : State) :
    (rotate s).mstatus = s.mstatus := rfl
@[simp] theorem rotate_mie (s : State) :
    (rotate s).mie = s.mie := rfl
@[simp] theorem rotate_mtvec (s : State) :
    (rotate s).mtvec = s.mtvec := rfl
@[simp] theorem rotate_mvendorid (s : State) :
    (rotate s).mvendorid = s.mvendorid := rfl
@[simp] theorem rotate_marchid (s : State) :
    (rotate s).marchid = s.marchid := rfl
@[simp] theorem rotate_mtime (s : State) :
    (rotate s).mtime = s.mtime := rfl
@[simp] theorem rotate_mtimecmp (s : State) :
    (rotate s).mtimecmp = s.mtimecmp := rfl
@[simp] theorem rotate_phase (s : State) :
    (rotate s).phase = s.phase := rfl
@[simp] theorem rotate_fault (s : State) :
    (rotate s).fault = s.fault := rfl
@[simp] theorem rotate_x (s : State) :
    (rotate s).x = s.x := rfl
@[simp] theorem rotate_pc (s : State) :
    (rotate s).pc = s.pc := rfl
@[simp] theorem rotate_diag (s : State) :
    (rotate s).diag = s.diag := rfl
@[simp] theorem rotate_cmdResp (s : State) :
    (rotate s).cmdResp = s.cmdResp := rfl
@[simp] theorem rotate_trapResp (s : State) :
    (rotate s).trapResp = s.trapResp := rfl
@[simp] theorem rotate_turns (s : State) :
    (rotate s).turns = s.turns := rfl
@[simp] theorem rotate_draws (s : State) :
    (rotate s).draws = s.draws := rfl
@[simp] theorem rotate_params (s : State) :
    (rotate s).params = s.params := rfl

/-! ### `load` -/

@[simp] theorem load_tt (s : State) :
    (load s).tt = s.tt := rfl
@[simp] theorem load_cur (s : State) :
    (load s).cur = s.cur := rfl
@[simp] theorem load_init (s : State) :
    (load s).init = s.init := rfl
@[simp] theorem load_snap (s : State) :
    (load s).snap = s.tt[s.cur].rf := rfl
@[simp] theorem load_mstatus (s : State) :
    (load s).mstatus = s.mstatus := rfl
@[simp] theorem load_mie (s : State) :
    (load s).mie = s.mie := rfl
@[simp] theorem load_mtvec (s : State) :
    (load s).mtvec = s.mtvec := rfl
@[simp] theorem load_mvendorid (s : State) :
    (load s).mvendorid = s.mvendorid := rfl
@[simp] theorem load_marchid (s : State) :
    (load s).marchid = s.marchid := rfl
@[simp] theorem load_mtime (s : State) :
    (load s).mtime = s.mtime := rfl
@[simp] theorem load_mtimecmp (s : State) :
    (load s).mtimecmp = s.mtimecmp := rfl
@[simp] theorem load_phase (s : State) :
    (load s).phase = s.phase := rfl
@[simp] theorem load_fault (s : State) :
    (load s).fault = s.fault := rfl
@[simp] theorem load_x (s : State) :
    (load s).x = s.x := rfl
@[simp] theorem load_pc (s : State) :
    (load s).pc = s.pc := rfl
@[simp] theorem load_diag (s : State) :
    (load s).diag = s.diag := rfl
@[simp] theorem load_cmdResp (s : State) :
    (load s).cmdResp = s.cmdResp := rfl
@[simp] theorem load_trapResp (s : State) :
    (load s).trapResp = s.trapResp := rfl
@[simp] theorem load_turns (s : State) :
    (load s).turns = s.turns := rfl
@[simp] theorem load_draws (s : State) :
    (load s).draws = s.draws := rfl
@[simp] theorem load_params (s : State) :
    (load s).params = s.params := rfl

/-! ### `bootstrap`, whichever way the switch stands -/

@[simp] theorem bootstrap_tt (s : State) : (bootstrap s).tt = s.tt := by
  unfold bootstrap; split <;> rfl
@[simp] theorem bootstrap_cur (s : State) :
    (bootstrap s).cur = if s.params.bootAdvance then nextCursor s.cur else s.cur := by
  unfold bootstrap; split <;> rfl
@[simp] theorem bootstrap_init (s : State) : (bootstrap s).init = true := by
  unfold bootstrap; split <;> rfl
@[simp] theorem bootstrap_snap (s : State) : (bootstrap s).snap = s.snap := by
  unfold bootstrap; split <;> rfl
@[simp] theorem bootstrap_mstatus (s : State) : (bootstrap s).mstatus = s.mstatus := by
  unfold bootstrap; split <;> rfl
@[simp] theorem bootstrap_mie (s : State) : (bootstrap s).mie = s.mie := by
  unfold bootstrap; split <;> rfl
@[simp] theorem bootstrap_mtvec (s : State) : (bootstrap s).mtvec = s.mtvec := by
  unfold bootstrap; split <;> rfl
@[simp] theorem bootstrap_mvendorid (s : State) : (bootstrap s).mvendorid = s.mvendorid := by
  unfold bootstrap; split <;> rfl
@[simp] theorem bootstrap_marchid (s : State) : (bootstrap s).marchid = s.marchid := by
  unfold bootstrap; split <;> rfl
@[simp] theorem bootstrap_mtime (s : State) : (bootstrap s).mtime = s.mtime := by
  unfold bootstrap; split <;> rfl
@[simp] theorem bootstrap_mtimecmp (s : State) : (bootstrap s).mtimecmp = s.mtimecmp := by
  unfold bootstrap; split <;> rfl
@[simp] theorem bootstrap_phase (s : State) : (bootstrap s).phase = s.phase := by
  unfold bootstrap; split <;> rfl
@[simp] theorem bootstrap_fault (s : State) : (bootstrap s).fault = s.fault := by
  unfold bootstrap; split <;> rfl
@[simp] theorem bootstrap_x (s : State) : (bootstrap s).x = s.x := by
  unfold bootstrap; split <;> rfl
@[simp] theorem bootstrap_pc (s : State) : (bootstrap s).pc = s.pc := by
  unfold bootstrap; split <;> rfl
@[simp] theorem bootstrap_diag (s : State) : (bootstrap s).diag = s.diag := by
  unfold bootstrap; split <;> rfl
@[simp] theorem bootstrap_cmdResp (s : State) : (bootstrap s).cmdResp = s.cmdResp := by
  unfold bootstrap; split <;> rfl
@[simp] theorem bootstrap_trapResp (s : State) : (bootstrap s).trapResp = s.trapResp := by
  unfold bootstrap; split <;> rfl
@[simp] theorem bootstrap_turns (s : State) : (bootstrap s).turns = s.turns := by
  unfold bootstrap; split <;> rfl
@[simp] theorem bootstrap_draws (s : State) : (bootstrap s).draws = s.draws := by
  unfold bootstrap; split <;> rfl
@[simp] theorem bootstrap_params (s : State) : (bootstrap s).params = s.params := by
  unfold bootstrap; split <;> rfl

/-! ### `takeTurn` -/

@[simp] theorem takeTurn_tt (s : State) : (takeTurn s).tt = s.tt := by
  unfold takeTurn; split <;> rfl
@[simp] theorem takeTurn_cur (s : State) : (takeTurn s).cur = s.cur := by
  unfold takeTurn; split <;> rfl
@[simp] theorem takeTurn_init (s : State) : (takeTurn s).init = s.init := by
  unfold takeTurn; split <;> rfl
@[simp] theorem takeTurn_snap (s : State) : (takeTurn s).snap = s.snap := by
  unfold takeTurn; split <;> rfl
@[simp] theorem takeTurn_mstatus (s : State) : (takeTurn s).mstatus = s.mstatus := by
  unfold takeTurn; split <;> rfl
@[simp] theorem takeTurn_mie (s : State) : (takeTurn s).mie = s.mie := by
  unfold takeTurn; split <;> rfl
@[simp] theorem takeTurn_mtvec (s : State) : (takeTurn s).mtvec = s.mtvec := by
  unfold takeTurn; split <;> rfl
@[simp] theorem takeTurn_mvendorid (s : State) : (takeTurn s).mvendorid = s.mvendorid := by
  unfold takeTurn; split <;> rfl
@[simp] theorem takeTurn_marchid (s : State) : (takeTurn s).marchid = s.marchid := by
  unfold takeTurn; split <;> rfl
@[simp] theorem takeTurn_mtime (s : State) : (takeTurn s).mtime = s.mtime := by
  unfold takeTurn; split <;> rfl
@[simp] theorem takeTurn_mtimecmp (s : State) : (takeTurn s).mtimecmp = s.mtimecmp := by
  unfold takeTurn; split <;> rfl
@[simp] theorem takeTurn_phase (s : State) : (takeTurn s).phase = s.phase := by
  unfold takeTurn; split <;> rfl
@[simp] theorem takeTurn_fault (s : State) : (takeTurn s).fault = s.fault := by
  unfold takeTurn; split <;> rfl
@[simp] theorem takeTurn_x (s : State) : (takeTurn s).x = s.x := by
  unfold takeTurn; split <;> rfl
@[simp] theorem takeTurn_pc (s : State) : (takeTurn s).pc = s.pc := by
  unfold takeTurn; split <;> rfl
@[simp] theorem takeTurn_diag (s : State) : (takeTurn s).diag = s.diag := by
  unfold takeTurn; split <;> rfl
@[simp] theorem takeTurn_cmdResp (s : State) : (takeTurn s).cmdResp = s.cmdResp := by
  unfold takeTurn; split <;> rfl
@[simp] theorem takeTurn_trapResp (s : State) : (takeTurn s).trapResp = s.trapResp := by
  unfold takeTurn; split <;> rfl
@[simp] theorem takeTurn_params (s : State) : (takeTurn s).params = s.params := by
  unfold takeTurn; split <;> rfl

/-! ### `writeCsr`: every field but the three writable CSRs -/

@[simp] theorem writeCsr_tt (c : Csr) (v : Word) (s : State) : (writeCsr c v s).tt = s.tt := by
  cases c <;> rfl
@[simp] theorem writeCsr_cur (c : Csr) (v : Word) (s : State) : (writeCsr c v s).cur = s.cur := by
  cases c <;> rfl
@[simp] theorem writeCsr_init (c : Csr) (v : Word) (s : State) : (writeCsr c v s).init = s.init := by
  cases c <;> rfl
@[simp] theorem writeCsr_snap (c : Csr) (v : Word) (s : State) : (writeCsr c v s).snap = s.snap := by
  cases c <;> rfl
@[simp] theorem writeCsr_mvendorid (c : Csr) (v : Word) (s : State) : (writeCsr c v s).mvendorid = s.mvendorid := by
  cases c <;> rfl
@[simp] theorem writeCsr_marchid (c : Csr) (v : Word) (s : State) : (writeCsr c v s).marchid = s.marchid := by
  cases c <;> rfl
@[simp] theorem writeCsr_mtime (c : Csr) (v : Word) (s : State) : (writeCsr c v s).mtime = s.mtime := by
  cases c <;> rfl
@[simp] theorem writeCsr_mtimecmp (c : Csr) (v : Word) (s : State) : (writeCsr c v s).mtimecmp = s.mtimecmp := by
  cases c <;> rfl
@[simp] theorem writeCsr_phase (c : Csr) (v : Word) (s : State) : (writeCsr c v s).phase = s.phase := by
  cases c <;> rfl
@[simp] theorem writeCsr_fault (c : Csr) (v : Word) (s : State) : (writeCsr c v s).fault = s.fault := by
  cases c <;> rfl
@[simp] theorem writeCsr_x (c : Csr) (v : Word) (s : State) : (writeCsr c v s).x = s.x := by
  cases c <;> rfl
@[simp] theorem writeCsr_pc (c : Csr) (v : Word) (s : State) : (writeCsr c v s).pc = s.pc := by
  cases c <;> rfl
@[simp] theorem writeCsr_diag (c : Csr) (v : Word) (s : State) : (writeCsr c v s).diag = s.diag := by
  cases c <;> rfl
@[simp] theorem writeCsr_cmdResp (c : Csr) (v : Word) (s : State) : (writeCsr c v s).cmdResp = s.cmdResp := by
  cases c <;> rfl
@[simp] theorem writeCsr_trapResp (c : Csr) (v : Word) (s : State) : (writeCsr c v s).trapResp = s.trapResp := by
  cases c <;> rfl
@[simp] theorem writeCsr_turns (c : Csr) (v : Word) (s : State) : (writeCsr c v s).turns = s.turns := by
  cases c <;> rfl
@[simp] theorem writeCsr_draws (c : Csr) (v : Word) (s : State) : (writeCsr c v s).draws = s.draws := by
  cases c <;> rfl
@[simp] theorem writeCsr_params (c : Csr) (v : Word) (s : State) : (writeCsr c v s).params = s.params := by
  cases c <;> rfl

end Sys2Proof.Machine
end

