-- ==== Sys2Proof/Laws/Ops.lean ====
section
/-! SUPPORT. One lemma per shared operation, saying everything it can do. -/

namespace Sys2Proof.Machine

/-! ### Performing and committing -/

@[simp] theorem commit_ok (s t : State) : commit s (.ok t) = t := rfl

@[simp] theorem commit_error (s : State) (f : ModelFault) : commit s (.error f) = latch f s := rfl

/-- An enabled operation is one step to its committed result. -/
theorem perform_of_enabled {op : State → Result} {s : State} (hf : s.fault = none)
    (hp : s.phase = .run) : perform op s = .next (commit s (op s)) := by
  simp [perform, hf, hp]

/-- In FATAL no operation has a step. -/
theorem perform_of_fatal {op : State → Result} {s : State} (hf : s.fault = none)
    (hp : s.phase = .fatal) : perform op s = .refused .notEnabled := by
  simp [perform, hf, hp]

/-- Once a fault is latched no operation has a step. -/
theorem perform_of_latched {op : State → Result} {s : State} {f : ModelFault}
    (hf : s.fault = some f) : perform op s = .fault (.latched f) := by
  simp [perform, hf]

/-- An operation that answers a next state was enabled, and that state is its committed result. -/
theorem perform_next {op : State → Result} {s t : State} (h : perform op s = .next t) :
    s.fault = none ∧ s.phase = .run ∧ t = commit s (op s) := by
  unfold perform at h
  split at h
  · cases h
  · split at h
    · cases h
    · next hf _ hp => cases h; exact ⟨hf, hp, rfl⟩

/-! ### The hart's registers -/

@[simp] theorem readX_zero (s : State) : readX s 0 = 0 := by
  simp [readX, readAllX]

theorem readX_of_ne {i : Fin nGpr} (s : State) (h : i ≠ 0) : readX s i = s.x[i] := by
  have h' : 0 ≠ i.val := fun e => h (Fin.ext e.symm)
  simp [readX, readAllX, h']

@[simp] theorem readAllX_get (s : State) (i : Fin nGpr) : (readAllX s)[i] = readX s i := rfl

/-- The write to `x[0]` is discarded; every other register takes its value. -/
theorem writeAllX_get (v : Vector Word nGpr) (s : State) (i : Fin nGpr) :
    (writeAllX v s).x[i] = if i = 0 then s.x[0] else v[i] := by
  split
  · next h => subst h; simp
  · next h =>
    have h' : 0 ≠ i.val := fun e => h (Fin.ext e.symm)
    simp [h']

/-- What the hart port shows after all registers were written: the values, and 0 in `x[0]`. -/
theorem readX_writeAllX (v : Vector Word nGpr) (s : State) (i : Fin nGpr) :
    readX (writeAllX v s) i = if i = 0 then 0 else v[i] := by
  split
  · next h => subst h; simp
  · next h => rw [readX_of_ne _ h, writeAllX_get, if_neg h]

/-! ### Operands -/

/-- A selector names a register exactly when it is in range. -/
theorem csrOfSel_isSome (sel : BitVec 8) : (csrOfSel sel).isSome = selInRange sel := by
  revert sel; decide

/-- A task index names the entry of its own number. -/
theorem taskOfIndex_eq_some {index : BitVec 8} {i : Fin nTasks} :
    taskOfIndex index = some i ↔ index.toNat = i.val := by
  unfold taskOfIndex
  split
  · next h => simp [Fin.ext_iff]
  · next h => simp only [reduceCtorEq, false_iff]; intro e; exact h (e ▸ i.isLt)

/-- An index out of range names none. -/
theorem taskOfIndex_eq_none {index : BitVec 8} : taskOfIndex index = none ↔ nTasks ≤ index.toNat := by
  unfold taskOfIndex
  split
  · next h => simp only [reduceCtorEq, false_iff]; omega
  · next h => simp only [true_iff]; omega

/-- A CSR write of a writable register is read back exactly, and no other register changes. -/
theorem readCsr_writeCsr (c d : Csr) (v : Word) (s : State) :
    readCsr d (writeCsr c v s) = if d = c ∧ csrWritable c = true then v else readCsr d s := by
  cases c <;> cases d <;> rfl

/-! ### Deadlines -/

/-- The sum that fits is exact. -/
theorem exactSum_of_lt {a b : U64} (h : a.toNat + b.toNat < 2 ^ 64) : exactSum a b = some (a + b) := by
  unfold exactSum; exact if_pos h

theorem exactSum_of_ge {a b : U64} (h : 2 ^ 64 ≤ a.toNat + b.toNat) : exactSum a b = none := by
  unfold exactSum; exact if_neg (Nat.not_lt.mpr h)

/-- Programming a deadline writes the exact sum and nothing else. -/
theorem armTimer_of_lt {offset : U64} {s : State} (h : s.mtime.toNat + offset.toNat < 2 ^ 64) :
    armTimer offset s = .ok (writeCompare (s.mtime + offset) s) := by
  simp [armTimer, readTimer, exactSum_of_lt h]

theorem armTimer_of_ge {offset : U64} {s : State} (h : 2 ^ 64 ≤ s.mtime.toNat + offset.toNat) :
    armTimer offset s = .error .armOverflow := by
  simp [armTimer, readTimer, exactSum_of_ge h]

/-- Programming a deadline writes the exact sum, or faults where it does not fit. -/
theorem armTimer_cases (offset : U64) (s : State) :
    (s.mtime.toNat + offset.toNat < 2 ^ 64 ∧
        armTimer offset s = .ok (writeCompare (s.mtime + offset) s)) ∨
      (2 ^ 64 ≤ s.mtime.toNat + offset.toNat ∧ armTimer offset s = .error .armOverflow) := by
  rcases Nat.lt_or_ge (s.mtime.toNat + offset.toNat) (2 ^ 64) with h | h
  · exact .inl ⟨h, armTimer_of_lt h⟩
  · exact .inr ⟨h, armTimer_of_ge h⟩

/-! ### Taking a trap and returning from one -/

/-- A trap is taken exactly when the vector is installed. -/
theorem takeTrap_cases (s : State) :
    (s.mtvec = s.params.trapEntry ∧ takeTrap s = .ok (disableInterrupts (capture s))) ∨
      (s.mtvec ≠ s.params.trapEntry ∧ takeTrap s = .error .trapVectorNotInstalled) := by
  unfold takeTrap
  split
  · next h => exact .inl ⟨h, rfl⟩
  · next h => exact .inr ⟨h, rfl⟩

/-- Returning re-arms, enables, restores and jumps, or faults where the deadline does not fit. -/
theorem trapReturn_cases (resume : Word) (s : State) :
    (s.mtime.toNat + s.params.quantumSteady.toNat < 2 ^ 64 ∧
        trapReturn resume s = .ok (jump resume (restore (enableInterrupts
          (writeCompare (s.mtime + s.params.quantumSteady) s))))) ∨
      (2 ^ 64 ≤ s.mtime.toNat + s.params.quantumSteady.toNat ∧
        trapReturn resume s = .error .armOverflow) := by
  rcases armTimer_cases s.params.quantumSteady s with ⟨h, e⟩ | ⟨h, e⟩
  · exact .inl ⟨h, by simp [trapReturn, e]⟩
  · exact .inr ⟨h, by simp [trapReturn, e]⟩

end Sys2Proof.Machine
end

