-- ==== Sys2Proof/Laws/PerInstr.lean ====
section
/-! SUPPORT. Facts about every instruction as syntax, one lemma per constructor. -/

namespace Sys2Proof.Laws.EncodedFrame

/-- The frame an instruction is encoded to has a zero `z` field, carries its operation code and argument, and
has as many operand words as its operation code says (spec/30_encoding.md R61 to R63). -/
def Statement (i : Instr) : Prop :=
  zField (encode i).header = 0 ∧ opField (encode i).header = i.op ∧
    aField (encode i).header = i.arg ∧ (encode i).operands.length = wordsOfOp i.op.toNat

theorem zField_headerOf (op : BitVec 4) (a : BitVec 8) : zField (headerOf op a) = 0 := by
  revert op a; decide +kernel

theorem opField_headerOf (op : BitVec 4) (a : BitVec 8) : opField (headerOf op a) = op := by
  revert op a; decide +kernel

theorem aField_headerOf (op : BitVec 4) (a : BitVec 8) : aField (headerOf op a) = a := by
  revert op a; decide +kernel

theorem statement_of (i : Instr) (h : i.words.length = wordsOfOp i.op.toNat) : Statement i :=
  ⟨zField_headerOf _ _, opField_headerOf _ _, aField_headerOf _ _, h⟩

theorem rdcsr (sel : BitVec 8) : Statement (.rdcsr sel) := statement_of _ rfl
theorem wrcsr (sel : BitVec 8) (value : Word) : Statement (.wrcsr sel value) := statement_of _ rfl
theorem rdtime : Statement .rdtime := statement_of _ rfl
theorem arm (offset : U64) : Statement (.arm offset) := statement_of _ rfl
theorem ei : Statement .ei := statement_of _ rfl
theorem di : Statement .di := statement_of _ rfl
theorem tinit (index : BitVec 8) (entry : Word) : Statement (.tinit index entry) := statement_of _ rfl
theorem trap (epc tval cause hartid mstatusArg : Word) :
    Statement (.trap epc tval cause hartid mstatusArg) := statement_of _ rfl
theorem rdcmp : Statement .rdcmp := statement_of _ rfl
theorem wrcmp (value : U64) : Statement (.wrcmp value) := statement_of _ rfl

end Sys2Proof.Laws.EncodedFrame
end

