-- ==== Sys2Proof/Laws/Decode.lean ====
section
/-! SUPPORT. The decoder by fields: a header from its fields and back, the decoder on an encoded frame, a frame
on a port in RUN, and a frame's fields as arithmetic. -/

namespace Sys2Proof.Machine

open Sys2Proof.Laws.EncodedFrame

/-- The decoder on an encoded frame asks the port, then the operation's own operands. -/
theorem decode_encode_eq (p : Port) (i : Instr) :
    decode p (encode i) =
      if portOfOp i.op.toNat ≠ p then .error .illegalCommand
      else decodeOp i.op.toNat i.arg i.words := by
  simp [decode, encode, zField_headerOf, opField_headerOf, aField_headerOf]

/-- An accepted frame has a zero `z` field, the right port, and an operation that accepts its operands. -/
theorem decode_ok {p : Port} {f : Frame} {i : Instr} (h : decode p f = .ok i) :
    zField f.header = 0 ∧ portOfOp (opField f.header).toNat = p ∧
      decodeOp (opField f.header).toNat (aField f.header) f.operands = .ok i := by
  unfold decode at h
  split at h
  · cases h
  · next hz =>
    split at h
    · cases h
    · next hp => exact ⟨not_not.mp hz, not_not.mp hp, h⟩

theorem opField_toNat (h : Header) : (opField h).toNat = h.toNat / 0x1000 % 0x10 := by
  simp [opField, Nat.shiftRight_eq_div_pow]

theorem aField_toNat (h : Header) : (aField h).toNat = h.toNat / 0x10 % 0x100 := by
  simp [aField, Nat.shiftRight_eq_div_pow]

theorem zField_toNat (h : Header) : (zField h).toNat = h.toNat % 0x10 := by
  simp [zField]

/-- The header as a number. -/
theorem headerOf_toNat (op : BitVec 4) (a : BitVec 8) :
    (headerOf op a).toNat = op.toNat * 0x1000 + a.toNat * 0x10 := by
  revert op a; decide +kernel

/-- A header with a zero `z` field is its operation code and argument. -/
theorem headerOf_fields {h : Header} (hz : zField h = 0) : headerOf (opField h) (aField h) = h := by
  apply BitVec.eq_of_toNat_eq
  have hz' : (zField h).toNat = 0 := by rw [hz]; rfl
  rw [zField_toNat] at hz'
  rw [headerOf_toNat, opField_toNat, aField_toNat]
  have := h.isLt
  omega

/-- In RUN a frame that decodes is its instruction, performed. -/
theorem deliver_of_ok {p : Port} {f : Frame} {i : Instr} {s : State} (hp : s.phase = .run)
    (h : decode p f = .ok i) : deliver p f s = exec i s := by
  unfold deliver; split
  · next e => rw [hp] at e; cases e
  · rw [h]

/-- In RUN an illegal frame latches its fault. -/
theorem deliver_of_error {p : Port} {f : Frame} {e : DecodeError} {m : ModelFault} {s : State}
    (hp : s.phase = .run) (h : decode p f = .error e) (hm : faultOfDecode e = some m) :
    deliver p f s = .next (latch m s) := by
  unfold deliver; split
  · next e => rw [hp] at e; cases e
  · rw [h]; simp only [hm]

end Sys2Proof.Machine
end

