-- ==== Sys2Proof/Laws/Step.lean ====
section
/-! SUPPORT. What an instruction and a step can do, said once. -/

namespace Sys2Proof.Machine

/-- The operation of each instruction, before it is performed. -/
def opOf : Instr → State → Result
  | .rdcsr sel => rdcsrOp sel
  | .wrcsr sel value => wrcsrOp sel value
  | .rdtime => rdtimeOp
  | .arm offset => armOp offset
  | .ei => eiOp
  | .di => diOp
  | .tinit index entry => tinitOp index entry
  | .trap epc _ cause _ _ => trapOp epc cause
  | .rdcmp => rdcmpOp
  | .wrcmp value => wrcmpOp value

/-- Every instruction is its operation, performed. -/
theorem exec_eq_perform (i : Instr) (s : State) : exec i s = perform (opOf i) s := by
  cases i <;> rfl

/-- An enabled instruction answers the committed result of its operation. -/
theorem exec_of_enabled {i : Instr} {s : State} (hf : s.fault = none) (hp : s.phase = .run) :
    exec i s = .next (commit s (opOf i s)) := by
  rw [exec_eq_perform, perform_of_enabled hf hp]

/-- An instruction that answers a next state was enabled, and that state is its committed result. -/
theorem exec_next {i : Instr} {s t : State} (h : exec i s = .next t) :
    s.fault = none ∧ s.phase = .run ∧ t = commit s (opOf i s) :=
  perform_next (exec_eq_perform i s ▸ h)

/-- The same by outcome: the operation's fault was latched, or its result is the next state. -/
theorem exec_outcomes {i : Instr} {s t : State} (h : exec i s = .next t) :
    s.fault = none ∧ s.phase = .run ∧
      ((∃ f, opOf i s = .error f ∧ t = latch f s) ∨ opOf i s = .ok t) := by
  obtain ⟨hf, hp, e⟩ := exec_next h
  refine ⟨hf, hp, ?_⟩
  cases r : opOf i s with
  | error f => exact .inl ⟨f, rfl, by rw [e, r, commit_error]⟩
  | ok u => exact .inr (by rw [e, r, commit_ok])

/-- What TRAP does: it faults and changes nothing, switches tasks, or enters FATAL. -/
theorem trapOp_cases (epc cause : Word) (s : State) :
    (s.mtvec ≠ s.params.trapEntry ∧ trapOp epc cause s = .error .trapVectorNotInstalled) ∨
    (s.mtvec = s.params.trapEntry ∧ isTimerCause cause = false ∧
      trapOp epc cause s = .ok (enterFatal epc (disableInterrupts (capture s)))) ∨
    (s.mtvec = s.params.trapEntry ∧ isTimerCause cause = true ∧
      trapOp epc cause s =
        trapReturn (select (switchTask epc (disableInterrupts (capture s))))
          (load (switchTask epc (disableInterrupts (capture s))))) := by
  rcases takeTrap_cases s with ⟨hv, e⟩ | ⟨hv, e⟩
  · right
    cases hc : isTimerCause cause
    · exact .inl ⟨hv, rfl, by simp [trapOp, e, hc]⟩
    · exact .inr ⟨hv, rfl, by simp [trapOp, e, hc]⟩
  · exact .inl ⟨hv, by simp [trapOp, e]⟩

/-- What a frame on a port can do. -/
theorem deliver_next {p : Port} {f : Frame} {s t : State} (h : deliver p f s = .next t) :
    (s.phase = .fatal ∧ t = s) ∨ (s.phase = .run ∧ ∃ m, t = latch m s) ∨
      (s.phase = .run ∧ ∃ i, decode p f = .ok i ∧ exec i s = .next t) := by
  unfold deliver at h
  split at h
  · next hp => cases h; exact .inl ⟨hp, rfl⟩
  · next hp =>
    split at h
    · next i hd => exact .inr (.inr ⟨hp, i, hd, h⟩)
    · split at h
      · next m _ => cases h; exact .inr (.inl ⟨hp, m, rfl⟩)
      · cases h

/-- In RUN a frame that decodes on its port is performed. -/
theorem deliver_of_decode {p : Port} {f : Frame} {i : Instr} {s : State} (hp : s.phase = .run)
    (hd : decode p f = .ok i) : deliver p f s = exec i s := by
  simp only [deliver, hp, hd]

/-- What one turn can do: pass, tick, the hart's own run, an illegal frame's fault, or one instruction. -/
theorem runTurn_next {u : Turn} {s t : State} (h : runTurn u s = .next t) :
    t = s ∨ t = commit s (tickOp s) ∨
      (s.phase = .run ∧ ∃ x pc, t = { writeAllX x s with pc := pc }) ∨
      (s.phase = .run ∧ ∃ m, t = latch m s) ∨
      (s.phase = .run ∧ ∃ i, exec i s = .next t) := by
  have port {p f} (h : deliver p f s = .next t) :
      t = s ∨ t = commit s (tickOp s) ∨
      (s.phase = .run ∧ ∃ x pc, t = { writeAllX x s with pc := pc }) ∨
      (s.phase = .run ∧ ∃ m, t = latch m s) ∨
      (s.phase = .run ∧ ∃ i, exec i s = .next t) := by
    rcases deliver_next h with ⟨-, e⟩ | e | ⟨hp, i, -, e⟩
    · exact .inl e
    · exact .inr (.inr (.inr (.inl e)))
    · exact .inr (.inr (.inr (.inr ⟨hp, i, e⟩)))
  cases u with
  | command f => exact port h
  | trapFrame f => exact port h
  | hartTrap a b c d =>
    simp only [runTurn, hartRaises] at h
    split at h
    · cases h; exact .inl rfl
    · next hp => exact .inr (.inr (.inr (.inr ⟨hp, _, h⟩)))
  | hartRun x pc =>
    simp only [runTurn, hartRuns] at h
    split at h
    · cases h; exact .inl rfl
    · next hp => cases h; exact .inr (.inr (.inl ⟨hp, x, pc, rfl⟩))
  | timer =>
    simp only [runTurn, sequencerTurn] at h
    split at h
    · exact .inr (.inr (.inr (.inr ⟨(exec_next h).2.1, _, h⟩)))
    · cases h; exact .inl rfl
  | tick => cases h; exact .inr (.inl rfl)

/-- A step that answers a next state was taken with no fault latched, and was one agent's turn. -/
theorem step_next {s t : State} (h : step s = .next t) :
    s.fault = none ∧ runTurn (nextTurn s) (takeTurn s) = .next t := by
  unfold step at h
  split at h
  · cases h
  · next hf => exact ⟨hf, h⟩

/-- In a good state with a turn waiting, the step is that turn, with it taken. -/
theorem step_of_turn {s : State} {u : Turn} {rest : List Turn} (hf : s.fault = none)
    (h : s.turns = u :: rest) : step s = runTurn u { s with turns := rest } := by
  unfold step
  split
  · next e => rw [hf] at e; cases e
  · simp only [nextTurn, takeTurn, h]

/-- What a step can do, said once; every invariant follows from this. -/
theorem step_cases {s t : State} (h : step s = .next t) :
    s.fault = none ∧
      (t = takeTurn s ∨ t = commit (takeTurn s) (tickOp (takeTurn s)) ∨
        (s.phase = .run ∧ ∃ x pc, t = { writeAllX x (takeTurn s) with pc := pc }) ∨
        (s.phase = .run ∧ ∃ m, t = latch m (takeTurn s)) ∨
        (s.phase = .run ∧ ∃ i, exec i (takeTurn s) = .next t)) := by
  obtain ⟨hf, hr⟩ := step_next h
  have hr := runTurn_next hr
  rw [takeTurn_phase] at hr
  exact ⟨hf, hr⟩

end Sys2Proof.Machine
end

