-- ==== Sys2Proof/Laws/Effects.lean ====
section
/-! SUPPORT. What the operations leave unchanged, said once for all instructions: the frames that the invariants
and whole-machine rules are derived from. -/

namespace Sys2Proof.Machine

/-! ### The trap sequence -/

theorem switchTask_of_init {epc : Word} {s : State} (h : s.init = true) :
    switchTask epc s = rotate (save epc s) := if_pos h

theorem switchTask_of_not_init {epc : Word} {s : State} (h : s.init = false) :
    switchTask epc s = bootstrap s := if_neg (by simp [h])

/-- The Task Table after a timer trap: the interrupted context saved, except by the first. -/
def savedTable (epc : Word) (s : State) : Vector Task nTasks :=
  if s.init then
    s.tt.set s.cur { s.tt[s.cur] with rf := { s.snap with gpr := readAllX s }, pc := epc }
  else s.tt

/-- The cursor after a timer trap: one place on, except after the first without `BOOT_ADVANCE`. -/
def rotatedCursor (s : State) : Fin nTasks :=
  if s.init || s.params.bootAdvance then nextCursor s.cur else s.cur

/-- The state after a timer trap whose deadline fits, field by field: the task at the rotated cursor of the saved
table is resumed. -/
def resumed (epc : Word) (s : State) : State :=
  { s with
    tt := savedTable epc s
    cur := rotatedCursor s
    init := true
    snap := (savedTable epc s)[rotatedCursor s].rf
    mstatus := setBit (clearBit s.mstatus mieBit) mieBit
    mie := setBit (clearBit s.mie mtieBit) mtieBit
    mtvec := s.params.trapEntry
    mtimecmp := s.mtime + s.params.quantumSteady
    x := (savedTable epc s)[rotatedCursor s].rf.gpr.set 0 s.x[0]
    pc := (savedTable epc s)[rotatedCursor s].pc
    trapResp := some (savedTable epc s)[rotatedCursor s].pc }

/-- After taking a trap, switching tasks and loading, returning gives `resumed` or the deadline's fault. -/
theorem trapReturn_switched (epc : Word) (s : State) :
    trapReturn (select (switchTask epc (disableInterrupts (capture s))))
        (load (switchTask epc (disableInterrupts (capture s)))) =
      if s.mtime.toNat + s.params.quantumSteady.toNat < 2 ^ 64 then .ok (resumed epc s)
      else .error .armOverflow := by
  have switched : switchTask epc (disableInterrupts (capture s)) =
      { disableInterrupts (capture s) with
        tt := savedTable epc s, cur := rotatedCursor s, init := true } := by
    cases hi : s.init
    · rw [switchTask_of_not_init (by simpa using hi)]
      cases hb : s.params.bootAdvance <;>
        simp [bootstrap, rotate, savedTable, rotatedCursor, hi, hb]
    · rw [switchTask_of_init (by simpa using hi)]
      simp [rotate, save, savedTable, rotatedCursor, hi]
  rw [switched]
  split
  · next h =>
    simp only [trapReturn]
    rw [armTimer_of_lt (by simpa using h)]
    simp [select, load, jump, respondTrap, restore, writeAllX, enableInterrupts, csrSetBit, writeCsr,
      readCsr, writeCompare, resumed]
  · next h =>
    simp only [trapReturn]
    rw [armTimer_of_ge (by simpa using Nat.le_of_not_lt h)]

/-- What TRAP does, in full: it faults for its vector, enters FATAL, faults for its deadline, or resumes the next
task. -/
theorem trapOp_outcomes (epc cause : Word) (s : State) :
    (s.mtvec ≠ s.params.trapEntry ∧ trapOp epc cause s = .error .trapVectorNotInstalled) ∨
    (s.mtvec = s.params.trapEntry ∧ isTimerCause cause = false ∧
      trapOp epc cause s = .ok (enterFatal epc (disableInterrupts (capture s)))) ∨
    (s.mtvec = s.params.trapEntry ∧ isTimerCause cause = true ∧
      2 ^ 64 ≤ s.mtime.toNat + s.params.quantumSteady.toNat ∧
      trapOp epc cause s = .error .armOverflow) ∨
    (s.mtvec = s.params.trapEntry ∧ isTimerCause cause = true ∧
      s.mtime.toNat + s.params.quantumSteady.toNat < 2 ^ 64 ∧
      trapOp epc cause s = .ok (resumed epc s)) := by
  rcases trapOp_cases epc cause s with h | h | ⟨hv, hc, e⟩
  · exact .inl h
  · exact .inr (.inl h)
  · rw [trapReturn_switched] at e
    split at e
    · next h => exact .inr (.inr (.inr ⟨hv, hc, h, e⟩))
    · next h => exact .inr (.inr (.inl ⟨hv, hc, Nat.le_of_not_lt h, e⟩))

/-! ### The other operations -/

/-- What every instruction but TRAP can change: no piece of state but these. -/
theorem opOf_frame {i : Instr} {s t : State} (h : opOf i s = .ok t)
    (hi : ∀ a b c d e, i ≠ .trap a b c d e) :
    t = { s with
      tt := t.tt, mstatus := t.mstatus, mie := t.mie, mtvec := t.mtvec, mtimecmp := t.mtimecmp,
      cmdResp := t.cmdResp } := by
  cases i with
  | rdcsr sel =>
    simp only [opOf, rdcsrOp] at h
    split at h
    · cases h
    · next c _ =>
      cases h
      unfold readClear
      split
      · cases c <;> rfl
      · rfl
  | wrcsr sel v =>
    simp only [opOf, wrcsrOp] at h
    split at h
    · cases h
    · next c _ =>
      split at h
      · cases h; cases c <;> rfl
      · cases h
  | arm d =>
    rcases armTimer_cases d s with ⟨-, e⟩ | ⟨-, e⟩ <;> simp only [opOf, armOp, e] at h <;> cases h
    rfl
  | tinit index entry =>
    simp only [opOf, tinitOp] at h
    split at h
    · cases h
    · split at h <;> cases h
      rfl
  | trap a b c d e => exact absurd rfl (hi a b c d e)
  | rdtime => cases h; rfl
  | ei => cases h; rfl
  | di => cases h; rfl
  | rdcmp => cases h; rfl
  | wrcmp v => cases h; rfl

/-- The three kinds of instruction by what they do to the Task Table: TRAP, TINIT, and the rest. -/
theorem instr_kinds (i : Instr) :
    (∃ a b c d e, i = .trap a b c d e) ∨ (∃ a b, i = .tinit a b) ∨
      ((∀ a b c d e, i ≠ .trap a b c d e) ∧ ∀ a b, i ≠ .tinit a b) := by
  cases i <;> simp

/-- TINIT, when it does not fault: one entry of the table, in the boot condition. -/
theorem tinitOp_ok {index : BitVec 8} {entry : Word} {s t : State} (h : tinitOp index entry s = .ok t) :
    ∃ i : Fin nTasks, index.toNat = i.val ∧ s.init = false ∧ s.mieSet = false ∧
      t = { s with
        tt := s.tt.set i (createTask s.params i entry s.tt[i]), cmdResp := none } := by
  unfold tinitOp at h
  split at h
  · cases h
  · next i hi =>
    split at h
    · cases h
    · next hb =>
      cases h
      simp only [Bool.or_eq_true, not_or, Bool.not_eq_true] at hb
      exact ⟨i, taskOfIndex_eq_some.mp hi, hb.1, hb.2, rfl⟩

/-- Only TINIT and TRAP write the Task Table. -/
theorem opOf_tt {i : Instr} {s t : State} (h : opOf i s = .ok t)
    (hi : ∀ a b c d e, i ≠ .trap a b c d e) (hj : ∀ a b, i ≠ .tinit a b) : t.tt = s.tt := by
  cases i with
  | rdcsr sel =>
    simp only [opOf, rdcsrOp] at h
    split at h
    · cases h
    · cases h; unfold readClear; split <;> simp
  | wrcsr sel v =>
    simp only [opOf, wrcsrOp] at h
    split at h
    · cases h
    · split at h <;> cases h
      simp
  | arm d =>
    rcases armTimer_cases d s with ⟨-, e⟩ | ⟨-, e⟩ <;> simp only [opOf, armOp, e] at h <;> cases h
    rfl
  | tinit index entry => exact absurd rfl (hj index entry)
  | trap a b c d e => exact absurd rfl (hi a b c d e)
  | rdtime => cases h; rfl
  | ei => cases h; rfl
  | di => cases h; rfl
  | rdcmp => cases h; rfl
  | wrcmp v => cases h; rfl

end Sys2Proof.Machine
end

