-- ==== Sys2Proof/Laws/Runs.lean ====
section
/-! SUPPORT. Runs of instructions and runs of steps, one at a time. -/

namespace Sys2Proof.Machine

@[simp] theorem execAll_nil (s : State) : execAll [] s = some s := rfl

/-- A run whose first instruction completes goes on from the state it leaves. -/
theorem execAll_cons {i : Instr} {s t : State} (h : exec i s = .next t) (rest : List Instr) :
    execAll (i :: rest) s = execAll rest t := by
  simp only [execAll, h]

/-- What every step from a state that meets `P` keeps, every run of such steps keeps. -/
theorem reaches_keeps {P Q : State → Prop} (h : ∀ s t, P s → Q s → step s = .next t → Q t) :
    ∀ (n : Nat) (s t : State), reaches P n s t → Q s → Q t := by
  intro n
  induction n with
  | zero => intro s t r q; exact r ▸ q
  | succ n ih =>
    intro s t r q
    obtain ⟨p, r⟩ := r
    split at r
    · next m e => exact ih m t r (h s m p q e)
    · exact r.elim

end Sys2Proof.Machine
end

