-- ==== Sys2Proof/Tests/Slice0.lean ====
section
/-! SUPPORT. The model's own tests. Expected values are those of spec/95_test_vectors.md (its example parameter set
EP) or words written out from the tables of spec/30_encoding.md; each theorem names its source. Then one witness
for the hypotheses of each statement that has some. -/

namespace Sys2Proof.Tests

open Sys2Proof.Machine

/-! ### The example parameters and small states -/

/-- Parameter set EP (95, introduction), with the addresses EP leaves out chosen 8 bytes apart. -/
def ep : Params :=
  { timerBase := 0x02000000, offCounter := 0x8, offCompare := 0x0, consoleAddr := 0x10000000,
    trapEntry := 0x80000100, stackTop := 0x80010000, stackSize := 0x1000,
    quantumBoot := 0x2000, quantumSteady := 0x1000, mvendoridValue := 0, marchidValue := 5,
    hartid := 0, initTag := .running, spInit := none, bootAdvance := false, csrReadClears := true }

/-- Reset under EP with every draw zero but `mtime`. -/
def atTime (t : U64) : State := State.resetWith ep { ResetDraw.zero with mtime := t }

/-- A zero task with a pc and a value in `gpr[5]`. -/
def taskWith (pc v : Word) : Task :=
  { zeroTask with
      pc := pc, rf := { zeroRegisterFile with gpr := (Vector.replicate nGpr 0).set 5 v } }

/-- The start state of 95 section 2.7. -/
def switching : State :=
  { atTime 0x500 with
      init := true, cur := 1, mtvec := 0x80000100, pc := 0xB8,
      tt := (Vector.replicate nTasks zeroTask).set 0 (taskWith 0xA0 0x55) |>.set 1 (taskWith 0xB0 0x66),
      x := (Vector.replicate nGpr 0).set 5 0x77 }

/-- The next state meets `p`. -/
def after (o : Out) (p : State → Bool) : Bool :=
  match o with
  | .next t => p t
  | _ => false

/-- The next state is `s` with only the fault `f` latched. -/
def faultsOnly (o : Out) (s : State) (f : ModelFault) : Bool :=
  after o fun t => decide (t = { s with fault := some f })

/-! ### Well-formedness: one ill-formed term for each check -/

theorem test_wf_rdcsr : (Instr.rdcsr 5).wf = false ∧ (Instr.rdcsr 4).wf = true := by decide
theorem test_wf_wrcsr : (Instr.wrcsr 255 0).wf = false ∧ (Instr.wrcsr 3 0).wf = true := by decide
theorem test_wf_tinit : (Instr.tinit 2 0).wf = false ∧ (Instr.tinit 1 0).wf = true := by decide

/-! ### Decoding: headers written out bit by bit as `op a z` (30 R61, R64; 95 section 2.1, programs P1 to P3) -/

theorem test_decode_rdcsr :
    decode .command ⟨0b0001_00000100_0000, []⟩ = .ok (.rdcsr 4) := by decide
theorem test_decode_wrcsr :
    decode .command ⟨0b0010_00000001_0000, [0x80]⟩ = .ok (.wrcsr 1 0x80) := by decide
theorem test_decode_rdtime : decode .command ⟨0b0011_00000000_0000, []⟩ = .ok .rdtime := by decide
theorem test_decode_arm :
    decode .command ⟨0b0100_00000000_0000, [0x2000]⟩ = .ok (.arm 0x2000) := by decide
theorem test_decode_ei : decode .command ⟨0b0101_00000000_0000, []⟩ = .ok .ei := by decide
theorem test_decode_di : decode .command ⟨0b0110_00000000_0000, []⟩ = .ok .di := by decide
theorem test_decode_tinit :
    decode .command ⟨0b0111_00000001_0000, [0x80002000]⟩ = .ok (.tinit 1 0x80002000) := by decide
theorem test_decode_trap :
    decode .trap ⟨0b1000_00000000_0000, [0x80000040, 1, 0x8000000000000007, 2, 3]⟩ =
      .ok (.trap 0x80000040 1 0x8000000000000007 2 3) := by decide
theorem test_decode_rdcmp : decode .command ⟨0b1001_00000000_0000, []⟩ = .ok .rdcmp := by decide
theorem test_decode_wrcmp :
    decode .command ⟨0b1010_00000000_0000, [0x200]⟩ = .ok (.wrcmp 0x200) := by decide

/-- The refused headers of 95 section 2.1. -/
theorem test_decode_illegal :
    decode .command ⟨0x1050, []⟩ = .error .illegalCsr ∧
    decode .command ⟨0x1001, []⟩ = .error .illegalCommand ∧
    decode .command ⟨0x3010, []⟩ = .error .illegalCommand ∧
    decode .command ⟨0x7020, [0]⟩ = .error .tableIndexRange ∧
    decode .command ⟨0x8000, [0, 0, 0, 0, 0]⟩ = .error .illegalCommand ∧
    decode .trap ⟨0x5000, []⟩ = .error .illegalCommand ∧
    decode .command ⟨0x0000, []⟩ = .error .illegalCommand ∧
    decode .command ⟨0xB000, []⟩ = .error .illegalCommand ∧
    decode .command ⟨0xF000, []⟩ = .error .illegalCommand := by decide

/-- A legal header with too few or too many operand words is no frame (30 R62, R63). -/
theorem test_decode_length :
    decode .command ⟨0x4000, []⟩ = .error .notAFrame ∧
    decode .command ⟨0x5000, [0]⟩ = .error .notAFrame := by decide

/-- The opcode table's numbering: a row's match word, and operand words above it. -/
theorem test_decodeTableWord :
    decodeTableWord 16 0x7000 = some (.tinit 0 0) ∧ decodeTableWord 16 0x8000 = some (.trap 0 0 0 0 0) ∧
    decodeTableWord 80 0x2_A000 = some (.wrcmp 2) ∧ decodeTableWord 16 0x2_A000 = some (.wrcmp 0) ∧
    decodeTableWord 16 0 = none := by decide

/-! ### Instructions -/

/-- 95 section 2.2: `mie = 0x888`, RDCSR mie. -/
theorem test_rdcsr_clears :
    after (exec (.rdcsr 1) { atTime 0 with mie := 0x888 }) (fun t =>
      decide (t.cmdResp = some 0x888 ∧ t.mie = 0)) = true := by decide

/-- 95 section 2.2: RDCSR marchid returns 0x5, unchanged. -/
theorem test_rdcsr_readOnly :
    after (exec (.rdcsr 4) (atTime 0)) (fun t => decide (t.cmdResp = some 5 ∧ t.marchid = 5)) = true := by
  decide

/-- 95 section 2.2: no bit is masked. -/
theorem test_wrcsr_allOnes :
    after (exec (.wrcsr 0 0xFFFFFFFFFFFFFFFF) (atTime 0)) (fun t =>
      decide (t.mstatus = 0xFFFFFFFFFFFFFFFF) && t.mieSet) = true := by decide

/-- 95 section 2.2: WRCSR marchid. -/
theorem test_wrcsr_readOnly :
    faultsOnly (exec (.wrcsr 4 1) (atTime 0)) (atTime 0) .readOnlyCsrWrite = true := by decide

/-- 95 section 2.2. -/
theorem test_rdtime :
    after (exec .rdtime (atTime 0x64)) (fun t => decide (t.cmdResp = some 0x64)) = true := by decide

/-- 95 section 2.2. -/
theorem test_rdcmp :
    after (exec .rdcmp { atTime 0 with mtimecmp := 0x74 }) (fun t =>
      decide (t.cmdResp = some 0x74 ∧ t.mtimecmp = 0x74)) = true := by decide

/-- 95 section 2.2: WRCMP 0x60 and 0x65 at 0x64. -/
theorem test_wrcmp :
    after (exec (.wrcmp 0x60) (atTime 0x64)) (fun t => decide (t.mtimecmp = 0x60) && t.mtip) = true ∧
    after (exec (.wrcmp 0x65) (atTime 0x64)) (fun t => !t.mtip) = true := by decide

/-- 95 section 2.3: the last sum that fits. -/
theorem test_arm_top :
    after (exec (.arm 0xF) (atTime 0xFFFFFFFFFFFFFFF0)) (fun t =>
      decide (t.mtimecmp = 0xFFFFFFFFFFFFFFFF) && !t.mtip) = true := by decide

/-- 95 section 2.3: the first that does not. -/
theorem test_arm_overflow :
    faultsOnly (exec (.arm 0x10) (atTime 0xFFFFFFFFFFFFFFF0)) (atTime 0xFFFFFFFFFFFFFFF0)
      .armOverflow = true := by decide

/-- 95 section 2.4, second row. -/
theorem test_ei :
    after (exec .ei { atTime 0 with mstatus := 0x1800, mie := 0x808, mtvec := 0x1234 }) (fun t =>
      decide (t.mstatus = 0x1808 ∧ t.mie = 0x888 ∧ t.mtvec = 0x80000100)) = true := by decide

/-- 95 section 2.4, fourth row. -/
theorem test_di :
    after (exec .di { atTime 0 with mstatus := 0x1808, mie := 0x888, mtvec := 0x80000100 }) (fun t =>
      decide (t.mstatus = 0x1800 ∧ t.mie = 0x808 ∧ t.mtvec = 0x80000100)) = true := by decide

/-- 95 section 2.8: TINIT 1, 0x8000_2000. -/
theorem test_tinit :
    after (exec (.tinit 1 0x80002000) (atTime 0)) (fun t =>
      decide (t.tt[1].pc = 0x80002000 ∧ t.tt[1].entry = 0x80002000 ∧
        t.tt[1].rf.gpr[2] = 0x8000E000 ∧ t.tt[1].tag = .running ∧ t.tt[0] = zeroTask)) = true := by
  decide

/-- 95 section 2.8: TINIT after EI. -/
theorem test_tinit_afterBoot :
    faultsOnly (exec (.tinit 0 0) { atTime 0 with mstatus := 8 }) { atTime 0 with mstatus := 8 }
      .tableWriteAfterBoot = true := by decide

/-- 95 section 2.7, first case. -/
theorem test_trap_switch :
    after (exec (.trap 0xB8 0 0x8000000000000007 0 8) switching) (fun t =>
      decide (t.tt[1].pc = 0xB8 ∧ t.tt[1].rf.gpr[5] = 0x77 ∧ t.cur = 0 ∧ t.trapResp = some 0xA0 ∧
        t.pc = 0xA0 ∧ t.x[5] = 0x55 ∧ t.x[0] = 0 ∧ t.tt[0] = switching.tt[0] ∧
        t.mtimecmp = 0x1500) && t.mieSet && t.mtieSet) = true := by decide

/-- 95 section 2.7, second case (`init = 0`): nothing is saved. -/
theorem test_trap_bootstrap :
    after (exec (.trap 0xB8 0 7 0 8) { switching with init := false }) (fun t =>
      decide (t.init = true ∧ t.cur = 1 ∧ t.tt = switching.tt ∧ t.trapResp = some 0xB0 ∧
        t.x[5] = 0x66)) = true := by decide

/-- 95 section 2.7, third and fourth cases: nothing changed. -/
theorem test_trap_faults :
    faultsOnly (exec (.trap 0xB8 0 7 0 8) { switching with mtvec := 0 }) { switching with mtvec := 0 }
      .trapVectorNotInstalled = true ∧
    faultsOnly (exec (.trap 0xB8 0 7 0 8) { switching with mtime := 0xFFFFFFFFFFFFF001 })
      { switching with mtime := 0xFFFFFFFFFFFFF001 } .armOverflow = true := by decide

/-- 95 program P2: cause 2 is fatal; the bits are clear, the table and the pc stay. -/
theorem test_trap_fatal :
    after (exec (.trap 0xB8 0xDEAD0000 2 0 8) { switching with mstatus := 8, mie := 0x80 }) (fun t =>
      decide (t.phase = .fatal ∧ t.pc = 0xB8 ∧ t.tt = switching.tt ∧ t.snap.gpr[5] = 0x77 ∧
        t.diag.map (·.addr) = [0xB8] ∧ t.trapResp = none ∧ t.mtvec = 0x80000100) &&
        !t.mieSet && !t.mtieSet) = true := by decide

/-- 95 section 2.5: the classes of its cause words. -/
theorem test_causes :
    isTimerCause 0xFFFFFFFFFFFFFE07 = true ∧ isTimerCause 0x207 = true ∧
    isTimerCause 0x8000000000000107 = false ∧ isTimerCause 0x87 = false ∧
    isTimerCause 0x1FF = false ∧ isTimerCause 0 = false := by decide

/-- 95 section 2.8, last row: the default wraps. -/
theorem test_spInit_wraps : spInitDefault 0x1000 0x1000 1 = 0xFFFFFFFFFFFFF000 := by decide

/-! ### Agents -/

/-- 95 section 2.3: the unsigned comparison. -/
theorem test_mtip_unsigned :
    State.mtip { atTime 0x8000000000000000 with mtimecmp := 0x7FFFFFFFFFFFFFFF } = true ∧
    State.mtip { atTime 0 with mtimecmp := 0x8000000000000000 } = false := by decide

/-- 95 section 2.3: the last two ticks. -/
theorem test_tick :
    after (step { atTime 0x73 with turns := [.tick] }) (fun t => decide (t.mtime = 0x74)) = true ∧
    after (step { atTime 0xFFFFFFFFFFFFFFFF with turns := [.tick] }) (fun t =>
      decide (t.fault = some .counterOverflow ∧ t.mtime = 0xFFFFFFFFFFFFFFFF)) = true := by decide

/-- A takeable interrupt is taken with `epc = pc` (60 R144): the section 2.7 state with both bits set. -/
def takeableState : State :=
  { switching with mstatus := 8, mie := 0x80, turns := [.timer] }

theorem test_timer_turn :
    after (step takeableState) (fun t =>
      decide (t.tt[1].pc = 0xB8 ∧ t.pc = 0xA0 ∧ t.cur = 0)) = true := by decide

/-- 95 program P2, step 3: in FATAL a command has no step. -/
theorem test_fatal_command :
    after (step { atTime 0 with phase := .fatal, turns := [.command (encode .ei)] }) (fun t =>
      decide (t = { atTime 0 with phase := .fatal })) = true := by decide

/-- A frame placed by `withFetchWord` is what the next step performs. -/
theorem test_withFetchWord :
    step (State.reset.withFetchWord 16 0x5000) = exec .ei State.reset := rfl

/-! ### Witnesses: a state and operands that meet all the hypotheses of a statement -/

theorem witness_enabled : (atTime 0).enabled ∧ State.reset.enabled := by decide

/-- DecodeOfEncode, DecodedFrameIsItsEncoding. -/
theorem witness_decode : (Instr.tinit 1 7).wf = true ∧
    decode .command ⟨0x7010, [7]⟩ = .ok (.tinit 1 7) := by decide

/-- IllegalFrameRaisesItsFault: an enabled state, and a header of each kind (`plain`, `csr`, `index`, legal). -/
theorem witness_illegalFrames : (atTime 0).enabled ∧
    faultsOnly (deliver .command ⟨0xB000, []⟩ (atTime 0)) (atTime 0) .illegalCommand = true ∧
    faultsOnly (deliver .command ⟨0x1050, []⟩ (atTime 0)) (atTime 0) .illegalCsr = true ∧
    faultsOnly (deliver .command ⟨0x7020, []⟩ (atTime 0)) (atTime 0) .tableIndexRange = true ∧
    (⟨0x7010, [1]⟩ : Frame).operands.length = wordsOfOp 7 ∧
    decode .command ⟨0x7010, [1]⟩ = .ok (.tinit 1 1) := by decide

/-- OverlappingCausesRaiseIllegalCommand: selector 5 with `z = 1`, and on the trap port. -/
theorem witness_overlapping : (atTime 0).enabled ∧
    faultsOnly (deliver .command ⟨0x1051, []⟩ (atTime 0)) (atTime 0) .illegalCommand = true ∧
    faultsOnly (deliver .trap ⟨0x7020, [0]⟩ (atTime 0)) (atTime 0) .illegalCommand = true := by decide

/-- OpcodeRowsNeverOverlap. -/
theorem witness_rows : ∃ r ∈ opcodeRows, r.selects 0x7010 = true := by decide

/-- StepRunsTheDecodedInstruction: a command frame, a trap frame, and an illegal one. -/
theorem witness_stepRuns :
    State.enabled { atTime 0 with turns := [.command ⟨0x5000, []⟩] } ∧
    decode .command ⟨0x5000, []⟩ = .ok .ei ∧
    decode .trap ⟨0x8000, [1, 2, 3, 4, 5]⟩ = .ok (.trap 1 2 3 4 5) ∧
    after (step { atTime 0 with turns := [.command ⟨0x1050, []⟩] }) (fun t =>
      decide (t.fault = some .illegalCsr)) = true := by decide

/-- FaultCommitsNothing, OnlyItsOwnFaults: an instruction that faults. -/
theorem witness_faults :
    after (exec (.arm 0x10) (atTime 0xFFFFFFFFFFFFFFF0)) (fun t =>
      decide (t.fault = some .armOverflow)) = true := by decide

/-- LatchedFaultStopsEverything. -/
theorem witness_latched : (latch .illegalCsr (atTime 0)).fault = some .illegalCsr := by decide

/-- FatalIsAbsorbing: in FATAL, before and at the counter's end, on a tick and on another turn. -/
theorem witness_fatal :
    State.good { atTime 0 with phase := .fatal, turns := [.tick] } ∧
    nextTurn { atTime 0 with phase := .fatal, turns := [.tick] } = .tick ∧
    nextTurn { atTime 0 with phase := .fatal, turns := [.timer] } ≠ .tick ∧
    (atTime 0xFFFFFFFFFFFFFFFF).mtime.toNat + 1 = 2 ^ 64 := by decide

/-- ClearingReadUninstallsTheVector: `TRAP_ENTRY ≠ 0`, and a read of each writable register. -/
theorem witness_clearingRead : (atTime 0).params.csrReadClears = true ∧
    (atTime 0).params.trapEntry ≠ 0 ∧
    ∀ sel ∈ [(0 : BitVec 8), 1, 2], after (exec (.rdcsr sel) (atTime 0)) (fun _ => true) = true := by
  decide

/-- WriteCsrAndTheInterrupt: pending, one bit set, and a vector that is not `TRAP_ENTRY`. -/
theorem witness_writeCsr :
    State.mtip { atTime 1 with mie := 0x80, mstatus := 8 } = true ∧ (0x1234 : Word) ≠ ep.trapEntry ∧
    after (exec (.wrcsr 0 8) { atTime 1 with mie := 0x80 }) (fun t => t.takeable) = true ∧
    after (exec (.wrcsr 1 0x80) { atTime 1 with mstatus := 8 }) (fun t => t.takeable) = true := by decide

/-- BitAccessKeepsOtherBits. -/
theorem witness_bitAccess : csrWritable .mtvec = true ∧ (63 : Nat) < xlen := by decide

/-- MemoryMappedAccesses, BadConfigurationsAreRefused, ResetConfigurationIsAccepted: EP is accepted, and each constraint can fail. -/
theorem witness_config : configAccepted ep = true ∧
    configAccepted { ep with offCounter := 1 } = false ∧
    configAccepted { ep with offCompare := 4 } = false ∧
    configAccepted { ep with offCompare := 8 } = false ∧
    configAccepted { ep with quantumBoot := 0x1000 } = false ∧
    configAccepted { ep with consoleAddr := 0x02000007 } = false ∧
    configAccepted { ep with consoleAddr := 0x0200000F } = false ∧
    configAccepted { ep with consoleAddr := 0x02000010 } = true ∧
    configAccepted { ep with consoleAddr := 0x01FFFFFF } = true := by decide

/-- ArmStoresTheExactSum, ArmFiresAfterExactlyItsOffset: the last sum that fits and the first that does not. -/
theorem witness_arm : (0xFFFFFFFFFFFFFFF0 : U64).toNat + (0xF : U64).toNat < 2 ^ 64 ∧
    2 ^ 64 ≤ (0xFFFFFFFFFFFFFFF0 : U64).toNat + (0x10 : U64).toNat ∧
    after (exec (.arm 0xF) (atTime 0xFFFFFFFFFFFFFFF0)) (fun t => decide (t.fault = none)) = true := by
  decide

/-- TickAddsOneOrFaults, CounterIsMonotone, PassedDeadlineIsHeld: a step that ticks with a passed deadline held. -/
theorem witness_tick :
    State.mtip { atTime 5 with turns := [.tick] } = true ∧
    after (step { atTime 5 with turns := [.tick], mstatus := 8, mie := 0x80 }) (fun t =>
      decide (t.mtimecmp = 0 ∧ t.mtime = 6 ∧ t.phase = .run) && t.mieSet && t.mtieSet) = true ∧
    (0xFFFFFFFFFFFFFFFE : U64).toNat + 1 < 2 ^ 64 := by decide

/-- TaskCreationWritesFourComponents, TaskCreationOnlyBeforeBootEnds: the last index, the first refused one, and
both ways of boot being over. -/
theorem witness_tinit : (atTime 0).enabled ∧ (atTime 0).init = false ∧
    (atTime 0).mstatus.getLsbD 3 = false ∧ (1 : BitVec 8).toNat = (1 : Fin nTasks).val ∧
    nTasks ≤ (2 : BitVec 8).toNat ∧ State.enabled { atTime 0 with init := true } ∧
    ({ atTime 0 with mstatus := 8 } : State).mstatus.getLsbD 3 = true := by decide

/-- DefaultStackPointer. -/
theorem witness_spInit : ep.spInit = none := rfl

/-- BootSequencePreparesEveryTask. -/
theorem witness_boot : (atTime 0x100).enabled ∧ (atTime 0x100).init = false ∧
    (atTime 0x100).mstatus.getLsbD 3 = false ∧
    (atTime 0x100).mtime.toNat + (atTime 0x100).params.quantumBoot.toNat < 2 ^ 64 := by decide

/-- HighCauseBitsPlayNoPart. -/
theorem witness_causes : (0x8000000000000007 : Word).toNat % 512 = (7 : Word).toNat % 512 := by decide

/-- TrapNeedsTheInstalledVector: a state with the vector and one without. -/
theorem witness_vector : switching.enabled ∧ switching.mtvec = switching.params.trapEntry ∧
    (atTime 0).enabled ∧ (atTime 0).mtvec ≠ (atTime 0).params.trapEntry := by decide

/-- TimerTrapSwitchesTheTask, RearmClearsOrFaults (both clauses), HartTrapsAreNotMasked. -/
theorem witness_timerTrap : switching.enabled ∧ switching.mtvec = switching.params.trapEntry ∧
    (0x207 : Word).toNat % 512 = 7 ∧ switching.init = true ∧
    switching.mtime.toNat + switching.params.quantumSteady.toNat < 2 ^ 64 ∧
    1 ≤ switching.params.quantumSteady.toNat ∧
    2 ^ 64 ≤ (0xFFFFFFFFFFFFF000 : U64).toNat + switching.params.quantumSteady.toNat := by decide

/-- HartTrapsAreNotMasked: a hart trap of each class next, with both enable bits clear; where the deadline does not
fit only the timer class faults, and without the vector each does. -/
theorem witness_hartTrap :
    State.enabled { switching with turns := [.hartTrap 0 7 0 0] } ∧
    after (step { switching with turns := [.hartTrap 0 7 0 0] }) (fun t => decide (t.phase = .run)) = true ∧
    after (step { switching with mtime := 0xFFFFFFFFFFFFFFFF, turns := [.hartTrap 0 7 0 0] }) (fun t =>
      decide (t.fault = some .armOverflow)) = true ∧
    after (step { switching with mtime := 0xFFFFFFFFFFFFFFFF, turns := [.hartTrap 0 2 0 0] }) (fun t =>
      decide (t.phase = .fatal ∧ t.fault = none)) = true ∧
    after (step { switching with mtvec := 0, turns := [.hartTrap 0 2 0 0] }) (fun t =>
      decide (t.fault = some .trapVectorNotInstalled ∧ t.phase = .run)) = true := by decide

/-- BootstrapTrapSavesNothing, TimerTrapsRotateCyclically: the flag clear, and a list of two timer traps. -/
theorem witness_bootstrap : State.enabled { switching with init := false } ∧
    ∀ i ∈ [Instr.trap 1 0 7 0 0, Instr.trap 2 0 0x207 0 0], isTimerTrap i := by
  refine ⟨by decide, ?_⟩
  intro i hi
  simp only [List.mem_cons, List.not_mem_nil, or_false] at hi
  rcases hi with rfl | rfl
  · show (7 : Word).toNat % 512 = 7
    decide
  · show (0x207 : Word).toNat % 512 = 7
    decide

/-- OtherCausesAreFatal. -/
theorem witness_fatalTrap : switching.enabled ∧ switching.mtvec = switching.params.trapEntry ∧
    (0x107 : Word).toNat % 512 ≠ 7 := by decide

/-- The state after the timer trap of 95 section 2.7. -/
def switched : State :=
  match exec (.trap 0xB8 0 7 0 8) switching with
  | .next t => t
  | _ => switching

/-- The state after a second timer trap. -/
def switchedBack : State :=
  match exec (.trap 0xA8 0 7 0 8) switched with
  | .next t => t
  | _ => switching

/-- SavedContextComesBack: two timer traps, nothing between. -/
theorem witness_savedContext : switching.init = true ∧
    exec (.trap 0xB8 0 7 0 8) switching = .next switched ∧ switched.fault = none ∧
    reaches (fun v => v.cur ≠ switching.cur) 0 switched switched ∧
    exec (.trap 0xA8 0 7 0 8) switched = .next switchedBack ∧ switchedBack.fault = none ∧
    switchedBack.cur = switching.cur := by
  exact ⟨rfl, rfl, by decide, rfl, rfl, by decide, by decide⟩

/-- The section 2.7 state with a quantum of 0 ticks. -/
def impatient : State := { switching with params := { ep with quantumSteady := 0 } }

/-- The section 2.7 state after an ARM of no ticks, with RDTIME the next turn and both enable bits set. -/
def armedNow : State :=
  { switching with mtimecmp := 0x500, mstatus := 8, mie := 0x80, cmdResp := none
                   turns := [.command (encode .rdtime)] }

/-- TaskRunsItsQuantum: after a timer trap, and after an ARM and a step of the allowed kind, the interrupt is
takeable; ARM is no such step. -/
theorem witness_quantum :
    (∃ t, exec (.trap 0xB8 0 7 0 8) impatient = .next t ∧ t.fault = none ∧
      reaches (fun v => keepsDeadline (nextTurn v)) 0 t t ∧ t.takeable = true) ∧
    exec (.arm 0) { armedNow with mtimecmp := 0 } = .next armedNow ∧
    (∃ u, reaches (fun v => keepsDeadline (nextTurn v)) 1 armedNow u ∧ u.takeable = true) ∧
    keepsDeadline .tick ∧ ¬ keepsDeadline (.command (encode (.arm 0))) := by
  have rdtime : decode .command (encode .rdtime) = .ok .rdtime := rfl
  have keeps : keepsDeadline (.command (encode .rdtime)) := by
    intro d
    simp [rdtime]
  exact ⟨⟨_, rfl, by decide, rfl, by decide⟩, rfl,
    ⟨{ armedNow with turns := [], cmdResp := some 0x500 }, ⟨keeps, rfl⟩, by decide⟩, trivial,
    fun h => (h 0).1 rfl⟩

/-- TakeableExactlyWhen, SequencerTakesTheInterrupt, UnusedTrapArgumentsChangeNothing: the sequencer's turn, takeable with and without the vector, and not takeable. -/
theorem witness_takeable : takeableState.good ∧ takeableState.takeable = true ∧
    nextTurn takeableState = .timer ∧
    State.takeable { takeableState with mtvec := 0 } = true ∧
    ({ takeableState with mtvec := 0 } : State).mtvec ≠ takeableState.params.trapEntry ∧
    State.takeable { takeableState with mie := 0 } = false := by decide

/-- HartRunsFreely. -/
theorem witness_hartRun :
    State.enabled { atTime 0 with turns := [.hartRun (Vector.replicate nGpr 9) 4] } ∧
    after (step { atTime 0 with turns := [.hartRun (Vector.replicate nGpr 9) 4] }) (fun t =>
      decide (t.x[0] = 0 ∧ t.x[31] = 9 ∧ t.pc = 4)) = true := by decide

/-- StepKeepsTheInvariant, StorageComponentsNeverChange: a state with the invariant that steps. -/
theorem witness_inv : (atTime 0).Inv ∧
    after (step { atTime 0 with turns := [.tick] }) (fun _ => true) = true := by
  refine ⟨⟨by decide, by decide, by decide, by decide, ?_⟩, by decide⟩
  intro h; exact absurd h (by decide)

/-- OnlyTimerTrapsScheduleTasks, TaskTableWriters, ConstantsNeverChange: a step that moves the cursor and writes
the table, and one that sets the flag; and a TINIT that writes the table. -/
theorem witness_schedule :
    after (step takeableState) (fun t =>
      decide (t.cur ≠ takeableState.cur ∧ t.tt[1] ≠ takeableState.tt[1])) = true ∧
    after (step { takeableState with init := false }) (fun t => t.init) = true ∧
    after (step { atTime 0 with turns := [.command (encode (.tinit 1 4))] }) (fun t =>
      decide (t.tt[1] ≠ zeroTask)) = true := by decide

/-- TagAndEntryAreInert: two states that differ in an entry point, and a step that writes one. -/
theorem witness_inert :
    eqButInert (atTime 0) { atTime 0 with tt := (atTime 0).tt.set 0 { zeroTask with entry := 4 } } ∧
    after (step { atTime 0 with turns := [.command (encode (.tinit 1 4))] }) (fun t =>
      decide (t.tt[1].entry ≠ 0 ∧ t.tt[1].tag ≠ .off)) = true := by
  refine ⟨⟨rfl, ?_⟩, by decide⟩
  decide

/-- DiagnosticsOnlyAppend: a step that emits. -/
theorem witness_diag :
    after (step { switching with turns := [.hartTrap 0 2 0 0] }) (fun t =>
      decide (t.diag.length = 1)) = true := by decide

end Sys2Proof.Tests
end

