-- ==== Sys2Proof/Proofs/Scope.lean ====
section
/-! PROOFS. 00_scope: an instruction that faults commits nothing (R9), and `State.reset` runs in an accepted
configuration (R6, R7). -/

namespace Sys2Proof.Machine

/-! ### The fault latch -/

/-- An operation that does not fault leaves the latch alone: `commit` is its only writer. -/
theorem opOf_fault {i : Instr} {s t : State} (h : opOf i s = .ok t) : t.fault = s.fault := by
  cases i with
  | trap epc tval cause hartid mstatusArg =>
    rcases trapOp_outcomes epc cause s with ⟨-, e⟩ | ⟨-, -, e⟩ | ⟨-, -, -, e⟩ | ⟨-, -, -, e⟩ <;>
      cases e.symm.trans h <;> rfl
  | rdcsr | wrcsr | rdtime | arm | ei | di | tinit | rdcmp | wrcmp =>
    exact (congrArg State.fault (opOf_frame h (by simp)) :)

/-- Settles O10: the operation's own result keeps the latch empty, so the fault is the one `commit` latched. -/
theorem faultCommitsNothing : Obligations.FaultCommitsNothing := by
  intro i s t f h hf
  obtain ⟨hs, -, ⟨g, -, rfl⟩ | ok⟩ := exec_outcomes h
  · rw [latch_fault] at hf
    cases hf
    rfl
  · rw [opOf_fault ok, hs] at hf
    cases hf

/-! ### The timer registers under `acceptTimer` -/

/-- Both timer registers are at multiples of 8 (20_memory R43, R46). -/
theorem timerAddr_acceptTimer_mod (p : Params) (r : TimerReg) :
    (timerAddr (acceptTimer p) r).toNat % 8 = 0 := by
  cases r with
  | counter => rw [timerAddr_acceptTimer_counter, alignAddr_mod]
  | compare =>
    have aligned := alignAddr_mod (timerAddr p .compare)
    rw [timerAddr_acceptTimer_compare]
    split
    · rw [BitVec.toNat_add, Nat.mod_mod_of_dvd _ (by decide : 8 ∣ 2 ^ xlen), Nat.add_mod, aligned]
      rfl
    · exact aligned

/-- The two timer registers are at different addresses. -/
theorem timerAddr_acceptTimer_ne (p : Params) :
    timerAddr (acceptTimer p) .compare ≠ timerAddr (acceptTimer p) .counter := by
  rw [timerAddr_acceptTimer_compare, timerAddr_acceptTimer_counter]
  split
  · next h => rw [h]; exact BitVec.add_right_eq_self.not.mpr (by decide)
  · next h => exact h

/-- `acceptTimer` keeps timer registers that are already at two different multiples of 8. -/
theorem acceptTimer_eq_self {p : Params} (hc : (timerAddr p .counter).toNat % 8 = 0)
    (hd : (timerAddr p .compare).toNat % 8 = 0) (hne : p.offCounter ≠ p.offCompare) :
    acceptTimer p = p := by
  have addr_ne : timerAddr p .compare ≠ timerAddr p .counter :=
    fun e => hne (add_right_inj _ |>.mp e).symm
  simp only [acceptTimer, alignAddr_of_mod hc, alignAddr_of_mod hd, if_neg addr_ne]
  simp [timerAddr, BitVec.add_comm p.timerBase]

/-! ### The console port under `acceptConsole` -/

/-- The distance from `r` of the address `k` bytes above `a`. -/
theorem toNat_add_sub_eq (a k r : Word) :
    (a + k - r).toNat = ((a - r).toNat + k.toNat) % 2 ^ 64 := by
  rw [← BitVec.toNat_add, BitVec.sub_eq_add_neg, BitVec.sub_eq_add_neg, BitVec.add_assoc, BitVec.add_comm k,
    BitVec.add_assoc]

/-- Each timer register has 8 bytes, so of three addresses 8 apart it holds at most one: two registers cannot
hold all three. -/
theorem onTimer_add_sixteen {p : Params} {a : Word} (h : onTimer p a = true)
    (h8 : onTimer p (a + 8) = true) : onTimer p (a + 16) = false := by
  simp only [onTimer, Bool.or_eq_true, decide_eq_true_eq, toNat_add_sub_eq,
    show (8 : Word).toNat = 8 from rfl] at h h8
  rw [onTimer_eq_false, toNat_add_sub_eq, toNat_add_sub_eq, show (16 : Word).toNat = 16 from rfl]
  omega

/-- The console port is apart from the timer registers (R40). -/
theorem onTimer_acceptConsole (p : Params) : onTimer p (acceptConsole p) = false := by
  unfold acceptConsole
  split
  · next h =>
    split
    · next h8 => exact onTimer_add_sixteen h h8
    · next h8 => exact Bool.eq_false_of_not_eq_true h8
  · next h => exact Bool.eq_false_of_not_eq_true h

/-! ### Parameters held to the constraints -/

/-- What `acceptParams` gives is an accepted configuration. -/
theorem configAccepted_acceptParams (p : Params) : configAccepted (acceptParams p) = true := by
  rw [configAccepted_iff]
  refine ⟨?_, ?_, ?_, ?_, ?_⟩
  · rw [timerAddr_acceptParams, timerAddr_acceptTimer_mod]
  · rw [timerAddr_acceptParams, timerAddr_acceptTimer_mod]
  · exact fun e => timerAddr_acceptTimer_ne p (congrArg (p.timerBase + ·) e.symm)
  · rw [onTimer_acceptParams]
    exact onTimer_acceptConsole (acceptTimer p)
  · change p.quantumBoot ≠ if p.quantumSteady = p.quantumBoot then p.quantumBoot + 1 else p.quantumSteady
    split
    · exact Ne.symm (BitVec.add_right_eq_self.not.mpr (by decide))
    · next h => exact Ne.symm h

/-- `acceptParams` keeps an accepted configuration. -/
theorem acceptParams_eq_self {p : Params} (h : configAccepted p = true) : acceptParams p = p := by
  obtain ⟨hc, hd, hne, hon, hq⟩ := (configAccepted_iff p).mp h
  simp [acceptParams, acceptTimer_eq_self hc hd hne, acceptConsole, hon, hq.symm]

/-! ### The configuration at reset -/

theorem configAccepted_resetParams : configAccepted resetParams = true :=
  configAccepted_acceptParams Config.params

/-- The zero draw gives `State.reset`: clearing a bit of 0, or writing 0 in `x[0]`, changes nothing. -/
theorem resetWith_resetParams_zero : State.resetWith resetParams ResetDraw.zero = State.reset := rfl

theorem configure_of_accepted {p : Params} (h : configAccepted p = true) (d : ResetDraw) :
    configure p d = some (State.resetWith p d) := if_pos h

/-- Settles O60: `acceptParams` meets each constraint of a configuration, and `State.reset` runs in the free
parameters it gives. -/
theorem resetConfigurationIsAccepted : Obligations.ResetConfigurationIsAccepted := by
  obtain ⟨-, -, -, console, quanta⟩ := (configAccepted_iff resetParams).mp configAccepted_resetParams
  obtain ⟨counter, compare⟩ := (onTimer_eq_false _ _).mp console
  refine ⟨?_, rfl, rfl, rfl, quanta, ?_, ?_⟩
  · rw [configure_of_accepted configAccepted_resetParams, resetWith_resetParams_zero]
  · intro r
    cases r with
    | counter => exact counter
    | compare => exact compare
  · exact fun p => ⟨configAccepted_acceptParams p, acceptParams_eq_self, rfl⟩

end Sys2Proof.Machine
end

/-! PROOFS. 10_state: what a turn can do, the facts every step keeps (R17 to R20, R25, R27, R34), the machine's
invariant, and reset (R36). -/

namespace Sys2Proof.Machine

/-! ### What a turn can do -/

/-- A cause word is a timer cause exactly when its low nine bits are 7, as a number. -/
theorem isTimerCause_iff (cause : Word) : isTimerCause cause = true ↔ cause.toNat % 512 = 7 := by
  rw [isTimerCause, beq_iff_eq, ← BitVec.toNat_inj]
  simp [causeMaskBits, timerCode]

/-- The Clock's step adds one to a counter below its last value, and faults there. -/
theorem tickOp_cases (s : State) :
    (s.mtime.toNat + 1 < 2 ^ 64 ∧ (s.mtime + 1).toNat = s.mtime.toNat + 1 ∧
        tickOp s = .ok { s with mtime := s.mtime + 1 }) ∨
      (s.mtime.toNat + 1 = 2 ^ 64 ∧ tickOp s = .error .counterOverflow) := by
  have lt := s.mtime.isLt
  have top : s.mtime = BitVec.allOnes 64 ↔ s.mtime.toNat = 2 ^ 64 - 1 := by
    rw [← BitVec.toNat_inj, BitVec.toNat_allOnes]
  unfold tickOp
  split
  · next h => exact .inr ⟨by have := top.mp h; omega, rfl⟩
  · next h =>
    have fits : s.mtime.toNat + 1 < 2 ^ 64 := by have := mt top.mpr h; omega
    exact .inl ⟨fits, by rw [BitVec.toNat_add]; exact Nat.mod_eq_of_lt fits, rfl⟩

/-- The state after a TINIT that does not fault: task `j` created, nothing returned. -/
def created (j : Fin nTasks) (entry : Word) (s : State) : State :=
  { s with tt := s.tt.set j (createTask s.params j entry s.tt[j]), cmdResp := none }

/-- What the turn `u` can make of the state `s`, one constructor for each kind of next state. -/
inductive TurnEffect (u : Turn) (s : State) : State → Prop
  /-- The agent is not enabled. -/
  | pass : TurnEffect u s s
  /-- The Clock counts (41_timer R93). -/
  | tick (hu : u = .tick) (fits : (s.mtime + 1).toNat = s.mtime.toNat + 1) :
      TurnEffect u s { s with mtime := s.mtime + 1 }
  /-- A model fault is latched (R29). -/
  | fault (f : ModelFault) : TurnEffect u s (latch f s)
  /-- The hart runs on its own (R30, R31). -/
  | hartRun (x : Vector Word nGpr) (pc : Word) : s.phase = .run →
      TurnEffect u s { writeAllX x s with pc := pc }
  /-- A command that is no TINIT writes CSRs, the compare register and the response. -/
  | registers (mstatus mie mtvec : Word) (mtimecmp : U64) (resp : Option Word) : s.phase = .run →
      TurnEffect u s { s with
        mstatus := mstatus, mie := mie, mtvec := mtvec, mtimecmp := mtimecmp, cmdResp := resp }
  /-- A TINIT creates task `j` (44_boot R131, R133). -/
  | create (index : BitVec 8) (entry : Word) (j : Fin nTasks) : s.phase = .run →
      index.toNat = j.val → s.init = false → s.mieSet = false →
      exec (.tinit index entry) s = .next (created j entry s) → TurnEffect u s (created j entry s)
  /-- A TRAP with another cause enters FATAL (43_trap R124, R125). -/
  | fatal (epc : Word) : s.phase = .run → s.mtvec = s.params.trapEntry →
      TurnEffect u s (enterFatal epc (disableInterrupts (capture s)))
  /-- A timer trap resumes the next task (43_trap R110 to R123). -/
  | resume (i : Instr) (epc : Word) : s.phase = .run → isTimerTrap i →
      exec i s = .next (resumed epc s) → TurnEffect u s (resumed epc s)

/-- An instruction that answers a next state has one of the effects of a turn. -/
theorem exec_effect {i : Instr} {u : Turn} {s t : State} (h : exec i s = .next t) :
    TurnEffect u s t := by
  obtain ⟨-, hp, ⟨f, -, rfl⟩ | ok⟩ := exec_outcomes h
  · exact .fault f
  rcases instr_kinds i with ⟨epc, tval, cause, hartid, m, rfl⟩ | ⟨index, entry, rfl⟩ | ⟨hi, hj⟩
  · rcases trapOp_outcomes epc cause s with ⟨-, e⟩ | ⟨hv, -, e⟩ | ⟨-, -, -, e⟩ | ⟨-, hc, -, e⟩ <;>
      cases e.symm.trans ok
    · exact .fatal epc hp hv
    · exact .resume (.trap epc tval cause hartid m) epc hp ((isTimerCause_iff cause).mp hc) h
  · obtain ⟨j, hj, hi, hm, e⟩ := tinitOp_ok ok
    subst e
    exact .create index entry j hp hj hi hm h
  · have frame := opOf_frame ok hi
    rw [opOf_tt ok hi hj] at frame
    rw [frame]
    exact .registers _ _ _ _ _ hp

/-- A frame on a port passes, is illegal, or is an instruction: it has one of the effects. -/
theorem deliver_effect {p : Port} {f : Frame} {u : Turn} {s t : State} (h : deliver p f s = .next t) :
    TurnEffect u s t := by
  rcases deliver_next h with ⟨-, rfl⟩ | ⟨-, m, rfl⟩ | ⟨-, i, -, e⟩
  · exact .pass
  · exact .fault m
  · exact exec_effect e

/-- Every turn that answers a next state has one of the effects. -/
theorem runTurn_effect {u : Turn} {s t : State} (h : runTurn u s = .next t) : TurnEffect u s t := by
  cases u with
  | command f => exact deliver_effect h
  | trapFrame f => exact deliver_effect h
  | hartTrap tval cause hartid m =>
    simp only [runTurn, hartRaises] at h
    split at h
    · cases h; exact .pass
    · exact exec_effect h
  | hartRun x pc =>
    simp only [runTurn, hartRuns] at h
    split at h
    · cases h; exact .pass
    · next hp => cases h; exact .hartRun x pc hp
  | timer =>
    simp only [runTurn, sequencerTurn] at h
    split at h
    · exact exec_effect h
    · cases h; exact .pass
  | tick =>
    cases h
    rcases tickOp_cases s with ⟨-, fits, e⟩ | ⟨-, e⟩
    · rw [e]; exact .tick rfl fits
    · rw [e]; exact .fault _

/-- What a step can do: the effect of the next turn, in the state with that turn taken. -/
theorem step_effect {s t : State} (h : step s = .next t) : TurnEffect (nextTurn s) (takeTurn s) t :=
  runTurn_effect (step_next h).2

/-! ### What every turn keeps -/

/-- Settles O53: no effect of a turn names one of these fields. -/
theorem constantsNeverChange : Obligations.ConstantsNeverChange := by
  intro s t h
  have kept : t.mvendorid = (takeTurn s).mvendorid ∧ t.marchid = (takeTurn s).marchid ∧
      t.params = (takeTurn s).params := by
    cases step_effect h with
    | pass | tick | fault | hartRun | registers | create | fatal | resume => exact ⟨rfl, rfl, rfl⟩
  simpa using kept

/-- Settles O25: the Clock's effect is the only one on the counter, and adds one. -/
theorem counterIsMonotone : Obligations.CounterIsMonotone := by
  intro s t h
  have counts : (takeTurn s).mtime.toNat ≤ t.mtime.toNat ∧
      (t.mtime ≠ (takeTurn s).mtime → nextTurn s = .tick) := by
    cases step_effect h with
    | tick hu fits => exact ⟨fits ▸ Nat.le_succ _, fun _ => hu⟩
    | pass | fault | hartRun | registers | create | fatal | resume =>
      exact ⟨Nat.le_refl _, fun ne => absurd rfl ne⟩
  simpa using counts

/-- Settles O54: the fatal path is the only effect on the stream. -/
theorem diagnosticsOnlyAppend : Obligations.DiagnosticsOnlyAppend := by
  intro s t h
  have grows : t.diag = (takeTurn s).diag ∨
      ((takeTurn s).phase = .run ∧ t.phase = .fatal ∧ ∃ e, t.diag = (takeTurn s).diag ++ [e]) := by
    cases step_effect h with
    | fatal epc hp _ => exact .inr ⟨hp, rfl, _, rfl⟩
    | pass | tick | fault | hartRun | registers | create | resume => exact .inl rfl
  simpa using grows

/-! ### Who schedules tasks and who writes the Task Table -/

/-- A write of entry `i` changes no other entry. -/
theorem eq_of_set_get_ne {tt : Vector Task nTasks} {i j : Fin nTasks} {a : Task}
    (h : (tt.set i a)[j] ≠ tt[j]) : j = i :=
  Classical.byContradiction fun ne => h (Vector.getElem_set_ne _ _ fun e => ne (Fin.ext e.symm))

/-- The save of a timer trap writes the current entry only, and none before the first one. -/
theorem eq_cur_of_savedTable_ne {epc : Word} {s : State} {j : Fin nTasks}
    (h : (savedTable epc s)[j] ≠ s.tt[j]) : s.init = true ∧ j = s.cur := by
  unfold savedTable at h
  split at h
  · next hi => exact ⟨hi, eq_of_set_get_ne h⟩
  · exact absurd rfl h

/-- The save of a timer trap keeps the tag and the entry of every task. -/
theorem savedTable_inert (epc : Word) (s : State) (j : Fin nTasks) :
    (savedTable epc s)[j].tag = s.tt[j].tag ∧ (savedTable epc s)[j].entry = s.tt[j].entry := by
  by_cases h : (savedTable epc s)[j] = s.tt[j]
  · rw [h]; exact ⟨rfl, rfl⟩
  · obtain ⟨hi, rfl⟩ := eq_cur_of_savedTable_ne h
    simp [savedTable, hi]

/-- Where a timer trap moves the cursor, it is by one place, after the first one or under `BOOT_ADVANCE`. -/
theorem rotatedCursor_of_ne {s : State} (h : rotatedCursor s ≠ s.cur) :
    (rotatedCursor s).val = (s.cur.val + 1) % nTasks ∧
      (s.init = true ∨ s.params.bootAdvance = true) := by
  unfold rotatedCursor at h ⊢
  split at h
  · next hb => rw [if_pos hb]; exact ⟨rfl, by simpa using hb⟩
  · exact absurd rfl h

/-- Settles O50: only the effect of a timer trap names the cursor or the flag, and it sets the flag. -/
theorem onlyTimerTrapsScheduleTasks : Obligations.OnlyTimerTrapsScheduleTasks := by
  intro s t h changed
  rw [← takeTurn_cur s, ← takeTurn_init s] at changed
  rw [← takeTurn_cur s, ← takeTurn_init s, ← takeTurn_params s]
  cases step_effect h with
  | resume i epc _ hi e => exact ⟨⟨i, hi, e⟩, rfl, rotatedCursor_of_ne⟩
  | pass | tick | fault | hartRun | registers | create | fatal => simp [created] at changed

/-- Settles O51: of all effects only those of a TINIT and of a timer trap name the table. -/
theorem taskTableWriters : Obligations.TaskTableWriters := by
  intro s t j h changed
  rw [← takeTurn_tt s] at changed
  rw [← takeTurn_init s, ← takeTurn_cur s, ← takeTurn_mstatus s]
  cases step_effect h with
  | resume i epc _ hi e =>
    obtain ⟨booted, hj⟩ := eq_cur_of_savedTable_ne changed
    exact .inl ⟨booted, hj, i, hi, e⟩
  | create index entry k _ hk hi hm e =>
    obtain rfl := eq_of_set_get_ne changed
    exact .inr ⟨hi, hm, index, entry, hk, e⟩
  | pass | tick | fault | hartRun | registers | fatal => exact absurd rfl changed

/-! ### `tag` and `entry` are inert -/

/-- Two tables of the same contexts: they differ in `tag` and `entry` only. -/
def sameContexts (a b : Vector Task nTasks) : Prop :=
  ∀ i : Fin nTasks, b[i].pc = a[i].pc ∧ b[i].rf = a[i].rf

/-- A state that differs from `s` in `tag` and `entry` only is `s` with another table of the same contexts. -/
theorem eqButInert_iff {s s' : State} :
    eqButInert s s' ↔ ∃ tt, s' = { s with tt := tt } ∧ sameContexts s.tt tt :=
  ⟨fun ⟨e, h⟩ => ⟨s'.tt, e, h⟩, fun ⟨_, e, h⟩ => e ▸ ⟨rfl, h⟩⟩

/-- Entries of the same context, written to the same place, leave tables of the same contexts. -/
theorem sameContexts.set {a b : Vector Task nTasks} (h : sameContexts a b) (i : Fin nTasks)
    {x y : Task} (hxy : y.pc = x.pc ∧ y.rf = x.rf) : sameContexts (a.set i x) (b.set i y) := by
  intro j
  by_cases hj : j = i
  · subst hj; simpa using hxy
  · have hj' : i.val ≠ j.val := fun e => hj (Fin.ext e.symm)
    simpa [hj'] using h j

/-- A fault is latched alike. -/
theorem eqButInert.latch {s s' : State} (h : eqButInert s s') (f : ModelFault) :
    eqButInert (latch f s) (latch f s') := by
  obtain ⟨tt, rfl, ctx⟩ := eqButInert_iff.mp h
  exact ⟨rfl, ctx⟩

/-- The next turn is taken alike. -/
theorem eqButInert.takeTurn {s s' : State} (h : eqButInert s s') :
    eqButInert (takeTurn s) (takeTurn s') := by
  obtain ⟨tt, rfl, ctx⟩ := eqButInert_iff.mp h
  unfold Machine.takeTurn
  dsimp only
  split <;> exact ⟨rfl, ctx⟩

/-- The save keeps tables of the same contexts so. -/
theorem sameContexts_savedTable {s : State} {tt : Vector Task nTasks} (h : sameContexts s.tt tt)
    (epc : Word) : sameContexts (savedTable epc s) (savedTable epc { s with tt := tt }) := by
  unfold savedTable
  dsimp only
  split
  · exact h.set s.cur ⟨rfl, rfl⟩
  · exact h

/-- A timer trap reads the program counter and the register file of an entry, and nothing else of it. -/
theorem eqButInert_resumed {s : State} {tt : Vector Task nTasks} (h : sameContexts s.tt tt)
    (epc : Word) : eqButInert (resumed epc s) (resumed epc { s with tt := tt }) := by
  have saved := sameContexts_savedTable h epc
  refine ⟨?_, saved⟩
  obtain ⟨hpc, hrf⟩ := saved (rotatedCursor s)
  simp only [resumed, show rotatedCursor { s with tt := tt } = rotatedCursor s from rfl, hpc, hrf]

/-- TRAP by its conditions, none of which is about the table. -/
theorem trapOp_eq (epc cause : Word) (s : State) : trapOp epc cause s =
    if s.mtvec ≠ s.params.trapEntry then .error .trapVectorNotInstalled
    else if isTimerCause cause = false then .ok (enterFatal epc (disableInterrupts (capture s)))
    else if s.mtime.toNat + s.params.quantumSteady.toNat < 2 ^ 64 then .ok (resumed epc s)
    else .error .armOverflow := by
  rcases trapOp_outcomes epc cause s with ⟨hv, e⟩ | ⟨hv, hc, e⟩ | ⟨hv, hc, ho, e⟩ | ⟨hv, hc, ho, e⟩
  · simp [e, hv]
  · simp [e, hv, hc]
  · simp [e, hv, hc, Nat.not_lt.mpr ho, -Nat.reducePow]
  · simp [e, hv, hc, ho, -Nat.reducePow]

/-- An instruction other than TRAP and TINIT does the same with another table, and carries it along. -/
theorem opOf_withTable {i : Instr} (hi : ∀ a b c d e, i ≠ .trap a b c d e) (hj : ∀ a b, i ≠ .tinit a b)
    (s : State) (tt : Vector Task nTasks) :
    opOf i { s with tt := tt } = (opOf i s).map fun t => { t with tt := tt } := by
  cases i with
  | rdcsr sel =>
    simp only [opOf, rdcsrOp]
    split
    · rfl
    · next c _ =>
      unfold readClear
      dsimp only
      split <;> cases c <;> rfl
  | wrcsr sel v =>
    simp only [opOf, wrcsrOp]
    split
    · rfl
    · next c _ => cases c <;> rfl
  | arm d =>
    simp only [opOf, armOp, armTimer, readTimer]
    cases exactSum s.mtime d <;> rfl
  | tinit index entry => exact absurd rfl (hj index entry)
  | trap a b c d e => exact absurd rfl (hi a b c d e)
  | rdtime | ei | di | rdcmp | wrcmp => rfl

/-- What an instruction commits differs in `tag` and `entry` only where the states did. -/
theorem eqButInert.commit_opOf {s s' : State} (h : eqButInert s s') (i : Instr) :
    eqButInert (commit s (opOf i s)) (commit s' (opOf i s')) := by
  obtain ⟨tt, rfl, ctx⟩ := eqButInert_iff.mp h
  rcases instr_kinds i with ⟨epc, tval, cause, hartid, m, rfl⟩ | ⟨index, entry, rfl⟩ | ⟨hi, hj⟩
  · simp only [opOf, trapOp_eq]
    split
    · exact h.latch _
    · split
      · exact ⟨rfl, ctx⟩
      · split
        · exact eqButInert_resumed ctx epc
        · exact h.latch _
  · simp only [opOf, tinitOp]
    split
    · exact h.latch _
    · next j _ =>
      change eqButInert (commit s (if s.init || s.mieSet then _ else _))
        (commit _ (if s.init || s.mieSet then _ else _))
      split
      · exact h.latch _
      · refine ⟨rfl, ctx.set j ⟨rfl, ?_⟩⟩
        simp only [createTask, (ctx j).2]
  · rw [opOf_withTable hi hj s tt]
    cases r : opOf i s with
    | error f => exact h.latch f
    | ok t =>
      refine ⟨rfl, ?_⟩
      rw [commit_ok, opOf_tt r hi hj]
      exact ctx

/-- Every instruction is answered alike: whether it is enabled is no matter of the table. -/
theorem eqButInert.exec {s s' : State} (h : eqButInert s s') (i : Instr) :
    outRel eqButInert (exec i s) (exec i s') := by
  obtain ⟨tt, rfl, -⟩ := eqButInert_iff.mp h
  rw [exec_eq_perform, exec_eq_perform]
  unfold perform
  dsimp only
  split
  · rfl
  · split
    · rfl
    · exact h.commit_opOf i

/-- Every frame on a port is answered alike. -/
theorem eqButInert.deliver {s s' : State} (h : eqButInert s s') (p : Port) (f : Frame) :
    outRel eqButInert (deliver p f s) (deliver p f s') := by
  obtain ⟨tt, rfl, -⟩ := eqButInert_iff.mp h
  unfold Machine.deliver
  dsimp only
  split
  · exact h
  · split
    · exact h.exec _
    · split
      · exact h.latch _
      · rfl

/-- Every turn is answered alike. -/
theorem eqButInert.runTurn {s s' : State} (h : eqButInert s s') (u : Turn) :
    outRel eqButInert (runTurn u s) (runTurn u s') := by
  cases u with
  | command f => exact h.deliver .command f
  | trapFrame f => exact h.deliver .trap f
  | hartTrap tval cause hartid m =>
    obtain ⟨tt, rfl, -⟩ := eqButInert_iff.mp h
    simp only [Machine.runTurn, hartRaises]
    split
    · exact h
    · exact h.exec (.trap s.pc tval cause hartid m)
  | hartRun x pc =>
    obtain ⟨tt, rfl, ctx⟩ := eqButInert_iff.mp h
    simp only [Machine.runTurn, hartRuns]
    split
    · exact h
    · exact ⟨rfl, ctx⟩
  | timer =>
    obtain ⟨tt, rfl, -⟩ := eqButInert_iff.mp h
    change outRel eqButInert (if s.takeable then _ else _) (if s.takeable then _ else _)
    split
    · exact h.exec (timerTrap s)
    · exact h
  | tick =>
    obtain ⟨tt, rfl, ctx⟩ := eqButInert_iff.mp h
    change eqButInert _ _
    simp only [tickOp]
    split
    · exact h.latch _
    · exact ⟨rfl, ctx⟩

/-- A task whose tag or entry a turn changed is the one its TINIT created. -/
theorem TurnEffect.inert_writer {u : Turn} {s t : State} {j : Fin nTasks} (e : TurnEffect u s t)
    (changed : t.tt[j].tag ≠ s.tt[j].tag ∨ t.tt[j].entry ≠ s.tt[j].entry) :
    ∃ index entry, index.toNat = j.val ∧ exec (.tinit index entry) s = .next t ∧
      t.tt[j].tag = s.params.initTag ∧ t.tt[j].entry = entry ∧ t.tt[j].pc = entry := by
  cases e with
  | create index entry k _ hk _ _ e =>
    have written : (created k entry s).tt[j] ≠ s.tt[j] := fun same => by simp [same] at changed
    obtain rfl := eq_of_set_get_ne written
    exact ⟨index, entry, hk, e, by simp [created, createTask]⟩
  | resume i epc =>
    obtain ⟨htag, hentry⟩ := savedTable_inert epc s j
    exact changed.elim (absurd htag) (absurd hentry)
  | pass | tick | fault | hartRun | registers | fatal => simp at changed

/-- Settles O52: no condition and no result of a turn reads a tag or an entry, and TINIT alone writes them. -/
theorem tagAndEntryAreInert : Obligations.TagAndEntryAreInert := by
  refine ⟨fun s s' h => ?_, fun s t j h changed => ?_⟩
  · obtain ⟨tt, rfl, -⟩ := eqButInert_iff.mp h
    unfold step
    dsimp only
    split
    · rfl
    · exact h.takeTurn.runTurn (nextTurn s)
  · rw [← takeTurn_tt s] at changed
    simpa using (step_effect h).inert_writer changed

/-! ### The machine's invariant -/

/-- Taking a turn touches nothing the invariant speaks of. -/
theorem takeTurn_inv {s : State} (h : s.Inv) : (takeTurn s).Inv := by
  unfold takeTurn
  split <;> exact ⟨h.zeroReg, h.idRegs, h.fatalQuiet, h.diagOnce, h.snapOwner⟩

/-- A state in RUN is not in FATAL: there the clause of the invariant about FATAL asks nothing. -/
theorem absurd_fatal_of_run {s : State} {P : Prop} (hp : s.phase = .run) (h : s.phase = .fatal) : P :=
  Phase.noConfusion (hp.symm.trans h)

/-- The fatal path from RUN: stage 2 cleared the enable bits, and the one event is the first. -/
theorem enterFatal_inv {epc : Word} {s : State} (h : s.Inv) (hp : s.phase = .run)
    (hv : s.mtvec = s.params.trapEntry) :
    (enterFatal epc (disableInterrupts (capture s))).Inv where
  zeroReg := h.zeroReg
  idRegs := h.idRegs
  fatalQuiet _ := ⟨getLsbD_clearBit_self _ _, getLsbD_clearBit_self _ _, hv⟩
  diagOnce := by simpa [hp] using h.diagOnce
  snapOwner := h.snapOwner

/-- A timer trap from RUN: the snapshot is the register file loaded from the entry the cursor is at. -/
theorem resumed_inv {epc : Word} {s : State} (h : s.Inv) (hp : s.phase = .run) :
    (resumed epc s).Inv where
  zeroReg := by simpa [resumed] using h.zeroReg
  idRegs := h.idRegs
  fatalQuiet := absurd_fatal_of_run hp
  diagOnce := h.diagOnce
  snapOwner _ := ⟨rfl, rfl, rfl, rfl⟩

/-- Every effect of a turn keeps the invariant. -/
theorem TurnEffect.keeps_inv {u : Turn} {s t : State} (e : TurnEffect u s t) (h : s.Inv) : t.Inv := by
  cases e with
  | pass => exact h
  | tick | fault => exact ⟨h.zeroReg, h.idRegs, h.fatalQuiet, h.diagOnce, h.snapOwner⟩
  | hartRun x pc _ =>
    exact ⟨by simpa using h.zeroReg, h.idRegs, h.fatalQuiet, h.diagOnce, h.snapOwner⟩
  | registers _ _ _ _ _ hp =>
    exact ⟨h.zeroReg, h.idRegs, absurd_fatal_of_run hp, h.diagOnce, h.snapOwner⟩
  | create _ _ _ _ _ hi =>
    exact ⟨h.zeroReg, h.idRegs, h.fatalQuiet, h.diagOnce,
      fun booted => absurd (hi.symm.trans booted) Bool.false_ne_true⟩
  | fatal epc hp hv => exact enterFatal_inv h hp hv
  | resume i epc hp => exact resumed_inv h hp

/-- Settles O55: the invariant passes through taking the turn, then through its effect. -/
theorem stepKeepsTheInvariant : Obligations.StepKeepsTheInvariant :=
  fun _ _ h e => (step_effect e).keeps_inv (takeTurn_inv h)

/-- Every draw and every parameter record gives a reset state with the invariant. -/
theorem resetWith_inv (p : Params) (d : ResetDraw) : (State.resetWith p d).Inv where
  zeroReg := Vector.getElem_set_self _
  idRegs := ⟨rfl, rfl⟩
  fatalQuiet := absurd_fatal_of_run rfl
  diagOnce := rfl
  snapOwner booted := absurd booted Bool.false_ne_true

/-- Settles O56: at reset the phase is RUN and the flag 0, so only `x[0]` and the constants are asked. -/
theorem resetHasTheInvariant : Obligations.ResetHasTheInvariant :=
  ⟨resetWith_resetParams_zero ▸ resetWith_inv _ _, resetWith_inv⟩

/-- Settles O57: the two enable bits and `x[0]` are the only bits of a draw that reset overwrites. -/
theorem resetValues : Obligations.ResetValues := by
  intro p d
  refine ⟨rfl, rfl, rfl, rfl, getLsbD_clearBit_self _ _, getLsbD_clearBit_self _ _,
    fun _ => getLsbD_clearBit_of_ne _, fun _ => getLsbD_clearBit_of_ne _,
    rfl, rfl, rfl, rfl, rfl, rfl, rfl, ?_, rfl, rfl, ?_⟩
  · exact writeAllX_get d.x State.reset
  · have masked : (State.resetWith p d).mtieSet = false := getLsbD_clearBit_self _ _
    simp [State.takeable, masked]

/-! ### Stops, FATAL and the hart's own run -/

/-- Settles O12: `step` and `perform` ask the latch first. -/
theorem latchedFaultStopsEverything : Obligations.LatchedFaultStopsEverything := by
  intro s f hf
  refine ⟨?_, fun i => ?_⟩
  · simp only [step, hf]
  · rw [exec_eq_perform, perform_of_latched hf]

/-- In a good state the step is the next turn. -/
theorem step_of_good {s : State} (hf : s.fault = none) : step s = runTurn (nextTurn s) (takeTurn s) := by
  simp only [step, hf]

/-- In FATAL every turn but the Clock's passes. -/
theorem runTurn_of_fatal {u : Turn} {s : State} (hp : s.phase = .fatal) (hu : u ≠ .tick) :
    runTurn u s = .next s := by
  cases u with
  | command | trapFrame => simp only [runTurn, deliver, hp, passTurn]
  | hartTrap => simp only [runTurn, hartRaises, hp, passTurn]
  | hartRun => simp only [runTurn, hartRuns, hp, passTurn]
  | timer => simp [runTurn, sequencerTurn, State.takeable, hp, passTurn]
  | tick => exact absurd rfl hu

/-- Taking a turn touches the model's turn bookkeeping only. -/
theorem takeTurn_eq (s : State) :
    takeTurn s = { s with turns := (takeTurn s).turns, draws := (takeTurn s).draws } := by
  unfold takeTurn
  split <;> rfl

/-- Settles O13: in FATAL a turn is a tick or passes. -/
theorem fatalIsAbsorbing : Obligations.FatalIsAbsorbing := by
  intro s hf hp
  refine ⟨fun i => by rw [exec_eq_perform, perform_of_fatal hf hp], ?_⟩
  rw [step_of_good hf]
  by_cases hu : nextTurn s = .tick
  · rw [hu]
    refine ⟨_, rfl, ?_⟩
    rcases tickOp_cases (takeTurn s) with ⟨fits, sum, e⟩ | ⟨top, e⟩
    · rw [e, commit_ok]
      refine ⟨by rw [takeTurn_eq], fun ne => absurd rfl ne, fun _ _ => ?_, fun _ top => ?_⟩
      · simpa using And.intro sum hf
      · rw [takeTurn_mtime, top] at fits
        exact absurd fits (Nat.lt_irrefl _)
    · rw [e, commit_error]
      refine ⟨by rw [takeTurn_eq]; rfl, fun ne => absurd rfl ne, fun _ fits => ?_, fun _ _ => ?_⟩
      · rw [takeTurn_mtime] at top
        exact absurd top (Nat.ne_of_lt fits)
      · simp
  · rw [runTurn_of_fatal (by simpa using hp) hu]
    refine ⟨_, rfl, ?_, fun _ => ?_, fun h => absurd h hu, fun h => absurd h hu⟩
    · rw [takeTurn_eq]
    · simpa using hf

/-- Settles O48: in RUN the turn is one write of all registers, with the write of `x[0]` discarded. -/
theorem hartRunsFreely : Obligations.HartRunsFreely := by
  intro s rest x pc ⟨hf, hp⟩ ht
  rw [step_of_turn hf ht]
  simp only [runTurn, hartRuns, hp]
  exact ⟨_, rfl, rfl, Vector.getElem_set_self _, readX_writeAllX x s⟩

end Sys2Proof.Machine

/-! PROOFS. 20_memory: which configurations are refused (R40, R43, R46), and the memory-mapped accesses of the timer
registers (R47) with their separation (R40, R44). -/

namespace Sys2Proof.Machine

/-! ### The refused configurations -/

theorem configure_eq_none_iff (p : Params) (d : ResetDraw) :
    configure p d = none ↔ ¬ configAccepted p = true := by
  simp [configure]

/-- The only state a configuration gives is the reset state with it. -/
theorem eq_resetWith_of_configure {p : Params} {d : ResetDraw} {s : State}
    (h : configure p d = some s) : s = State.resetWith p d :=
  (Option.some.inj (Option.ite_none_right_eq_some.mp h).2).symm

/-- Settles O59: a refusal is the negation of the conjunction of constraints, so one of them is broken. -/
theorem badConfigurationsAreRefused : Obligations.BadConfigurationsAreRefused := by
  refine fun p d => ⟨?_, fun s => eq_resetWith_of_configure⟩
  rw [configure_eq_none_iff, configAccepted_iff, onTimer_eq_false]
  simp only [Classical.not_and_iff_not_or_not, Decidable.not_not, Nat.not_le, timerAddr, ne_eq]
  rw [or_comm (b := p.quantumBoot = p.quantumSteady)]

/-! ### The timer register at an address -/

theorem timerRegAt_counter (p : Params) : timerRegAt p (timerAddr p .counter) = some .counter :=
  if_pos rfl

/-- Different offsets keep the compare register from being hidden by the counter. -/
theorem timerRegAt_compare {p : Params} (h : p.offCounter ≠ p.offCompare) :
    timerRegAt p (timerAddr p .compare) = some .compare := by
  have addr_ne : timerAddr p .compare ≠ timerAddr p .counter :=
    fun e => h ((add_right_inj p.timerBase).mp e).symm
  rw [timerRegAt, if_neg addr_ne, if_pos rfl]

/-- A register is found at its own address only. -/
theorem eq_timerAddr_of_timerRegAt {p : Params} {a : Word} {r : TimerReg}
    (h : timerRegAt p a = some r) : a = timerAddr p r := by
  unfold timerRegAt at h
  split at h
  · next e => cases h; exact e
  · split at h
    · next e => cases h; exact e
    · cases h

/-! ### The two accesses (R47) -/

/-- A read of 8 bytes gives the register at the address. -/
theorem memRead_of_timerRegAt {s : State} {a : Word} {r : TimerReg}
    (h : timerRegAt s.params a = some r) : memRead a 8 s = some (readTimer r s) := by
  rw [memRead, if_pos rfl, h, Option.map_some]

/-- A write of 8 bytes at the compare register writes it. -/
theorem memWrite_of_timerRegAt {s : State} {a : Word} (v : U64)
    (h : timerRegAt s.params a = some .compare) : memWrite a 8 v s = some (writeCompare v s) :=
  if_pos ⟨rfl, h⟩

/-- A defined read has 8 bytes and is at a timer register. -/
theorem memRead_defined {s : State} {a : Word} {n : Nat} (h : (memRead a n s).isSome) :
    n = 8 ∧ ∃ r, a = timerAddr s.params r := by
  unfold memRead at h
  split at h
  · next width =>
    rw [Option.isSome_map] at h
    obtain ⟨r, at_r⟩ := Option.isSome_iff_exists.mp h
    exact ⟨width, r, eq_timerAddr_of_timerRegAt at_r⟩
  · cases h

/-- A defined write has 8 bytes and is at the compare register. -/
theorem memWrite_defined {s : State} {a : Word} {n : Nat} {v : U64} (h : (memWrite a n v s).isSome) :
    n = 8 ∧ a = timerAddr s.params .compare := by
  unfold memWrite at h
  split at h
  · next defined => exact ⟨defined.1, eq_timerAddr_of_timerRegAt defined.2⟩
  · cases h

/-! ### Separation (R40, R44) -/

/-- Two different multiples of 8 are at least 8 bytes apart, also over the wrap modulo 2^64. -/
theorem eight_le_toNat_sub_of_aligned {a b : Word} (ha : a.toNat % 8 = 0) (hb : b.toNat % 8 = 0)
    (h : a ≠ b) : 8 ≤ (a - b).toNat := by
  have toNat_ne : a.toNat ≠ b.toNat := fun e => h (BitVec.eq_of_toNat_eq e)
  have := b.isLt
  rw [eight_le_toNat_sub]
  unfold xlen at *
  omega

/-- In an accepted configuration both timer registers are aligned and apart from the console port. -/
theorem timerAddr_of_accepted {p : Params} (h : configAccepted p = true) (r : TimerReg) :
    (timerAddr p r).toNat % 8 = 0 ∧ 8 ≤ (p.consoleAddr - timerAddr p r).toNat := by
  obtain ⟨counter_aligned, compare_aligned, -, console, -⟩ := (configAccepted_iff p).mp h
  obtain ⟨counter_apart, compare_apart⟩ := (onTimer_eq_false _ _).mp console
  cases r with
  | counter => exact ⟨counter_aligned, counter_apart⟩
  | compare => exact ⟨compare_aligned, compare_apart⟩

/-- Settles O21: an access is defined at a timer register only, and these are aligned, so apart. -/
theorem memoryMappedAccesses : Obligations.MemoryMappedAccesses := by
  intro s v accepted
  obtain ⟨-, -, offsets_ne, -, -⟩ := (configAccepted_iff s.params).mp accepted
  have compare_at := timerRegAt_compare offsets_ne
  refine ⟨memRead_of_timerRegAt (timerRegAt_counter _), memRead_of_timerRegAt compare_at,
    memWrite_of_timerRegAt v compare_at, fun a n h => ?_,
    fun a n h => memWrite_defined (Option.isSome_iff_ne_none.mpr h), fun a n h => ?_⟩
  · obtain ⟨width, r, rfl⟩ := memRead_defined (Option.isSome_iff_ne_none.mpr h)
    cases r with
    | counter => exact ⟨width, .inl rfl⟩
    | compare => exact ⟨width, .inr rfl⟩
  · obtain ⟨r, rfl⟩ : ∃ r, a = timerAddr s.params r :=
      h.elim (fun read => (memRead_defined read).2) fun write => ⟨_, (memWrite_defined write).2⟩
    obtain ⟨aligned, console_apart⟩ := timerAddr_of_accepted accepted r
    refine ⟨console_apart, fun a' h' ne => ?_⟩
    obtain ⟨-, r', rfl⟩ := memRead_defined h'
    exact eight_le_toNat_sub_of_aligned (timerAddr_of_accepted accepted r').1 aligned ne

end Sys2Proof.Machine

/-! PROOFS. 30_encoding: decoder and encoder agree (R61 to R64), the header's layout (R65), the verdict on a header
and the fault of an illegal frame (R68, R69), the rows of the opcode map (R64), the frame whose turn it is (R60), and
the BOOT sequence (R71). -/

namespace Sys2Proof.Machine

/-! ### The decoder on legal frames (R61 to R64) -/

theorem unusedA_eq_ok {a : BitVec 8} {k : Except DecodeError Instr} {i : Instr} :
    unusedA a k = .ok i ↔ a = 0 ∧ k = .ok i := by
  unfold unusedA
  split <;> simp only [*, true_and, false_and, reduceCtorEq]

theorem noWords_eq_ok {ws : List Word} {i j : Instr} : noWords ws i = .ok j ↔ ws = [] ∧ i = j := by
  unfold noWords
  split <;> simp_all

theorem oneWord_eq_ok {ws : List Word} {k : Word → Instr} {i : Instr} :
    oneWord ws k = .ok i ↔ ∃ w, ws = [w] ∧ k w = i := by
  unfold oneWord
  split <;> simp_all

theorem fiveWords_eq_ok {ws : List Word} {k : Word → Word → Word → Word → Word → Instr} {i : Instr} :
    fiveWords ws k = .ok i ↔
      ∃ w0 w1 w2 w3 w4, ws = [w0, w1, w2, w3, w4] ∧ k w0 w1 w2 w3 w4 = i := by
  unfold fiveWords
  split <;> simp_all

/-- An operation whose argument has a range accepts what its format does, with an argument in range. -/
theorem ite_error_eq_ok {b : Bool} {k : Except DecodeError Instr} {e : DecodeError} {i : Instr} :
    (if b then k else .error e) = .ok i ↔ b = true ∧ k = .ok i := by
  cases b <;> simp

/-- An operation code reads its operands as an instruction exactly when they are that instruction's, and legal. -/
theorem decodeOp_eq_ok {op : Nat} {a : BitVec 8} {ws : List Word} {i : Instr} :
    decodeOp op a ws = .ok i ↔ i.wf = true ∧ op = i.op.toNat ∧ a = i.arg ∧ ws = i.words := by
  constructor
  · intro h
    unfold decodeOp at h
    split at h <;>
      simp only [ite_error_eq_ok, unusedA_eq_ok, noWords_eq_ok, oneWord_eq_ok, fiveWords_eq_ok,
        reduceCtorEq] at h
    case h_1 => obtain ⟨wf, rfl, rfl⟩ := h; exact ⟨wf, rfl, rfl, rfl⟩
    case h_2 | h_7 => obtain ⟨wf, w, rfl, rfl⟩ := h; exact ⟨wf, rfl, rfl, rfl⟩
    case h_3 | h_5 | h_6 | h_9 => obtain ⟨rfl, rfl, rfl⟩ := h; exact ⟨rfl, rfl, rfl, rfl⟩
    case h_4 | h_10 => obtain ⟨rfl, w, rfl, rfl⟩ := h; exact ⟨rfl, rfl, rfl, rfl⟩
    case h_8 => obtain ⟨rfl, w0, w1, w2, w3, w4, rfl, rfl⟩ := h; exact ⟨rfl, rfl, rfl, rfl⟩
  · rintro ⟨wf, rfl, rfl, rfl⟩
    cases i with
    | rdcsr | wrcsr | tinit => exact if_pos wf
    | rdtime | arm | ei | di | trap | rdcmp | wrcmp => rfl

/-- TRAP's operation code is the only one of the trap port. -/
theorem portOfOp_op (i : Instr) : portOfOp i.op.toNat = i.port := by
  cases i <;> rfl

/-- Settles O1: the fields of an encoded header are the instruction's own. -/
theorem decodeOfEncode : Obligations.DecodeOfEncode := by
  intro i wf
  rw [decode_encode_eq, portOfOp_op, if_neg (not_not.mpr rfl)]
  exact decodeOp_eq_ok.mpr ⟨wf, rfl, rfl, rfl⟩

/-- Settles O2: an accepted header has a zero `z` field, so its operation code and argument make it up. -/
theorem decodedFrameIsItsEncoding : Obligations.DecodedFrameIsItsEncoding := by
  intro p f i h
  obtain ⟨hz, hp, hop⟩ := decode_ok h
  obtain ⟨wf, op_eq, arg_eq, words_eq⟩ := decodeOp_eq_ok.mp hop
  refine ⟨wf, ?_, ?_⟩
  · rw [← hp, op_eq, portOfOp_op]
  · rw [encode, ← BitVec.eq_of_toNat_eq op_eq, ← arg_eq, ← words_eq, headerOf_fields hz]

/-! ### The header layout (R65) -/

/-- The three fields of a header do not overlap, so putting them side by side is shifting them into place. -/
theorem headerOf_eq_shifts (op : BitVec 4) (a : BitVec 8) :
    headerOf op a = (op.setWidth 16 <<< 12) ||| (a.setWidth 16 <<< 4) := by
  ext i hi
  simp only [headerOf, BitVec.getElem_or, BitVec.getElem_shiftLeft, BitVec.getElem_setWidth]
  grind

/-- Settles O3: the layout is that of any operation code and argument, and no example's header depends on its
operand words. -/
theorem headerLayoutAndExamples : Obligations.HeaderLayoutAndExamples := by
  refine ⟨fun i => headerOf_eq_shifts i.op i.arg, ?_⟩
  simp only [encode, Instr.op, Instr.arg, forall_const]
  decide

/-! ### Frames whose turn it is (R60) -/

/-- In RUN a frame presented next is delivered on its port, and performed where it decodes. -/
theorem step_of_frame {s : State} {u : Turn} {p : Port} {f : Frame} {rest : List Turn}
    (hs : s.enabled) (hu : ∀ t, runTurn u t = deliver p f t) (ht : s.turns = u :: rest) :
    step s = deliver p f { s with turns := rest } ∧
      ∀ i, decode p f = .ok i → step s = exec i { s with turns := rest } := by
  obtain ⟨hf, hp⟩ := hs
  rw [step_of_turn hf ht, hu]
  exact ⟨rfl, fun _ hd => deliver_of_ok hp hd⟩

/-- Settles O9: the turn of either port is its `deliver`. -/
theorem stepRunsTheDecodedInstruction : Obligations.StepRunsTheDecodedInstruction :=
  fun _ _ _ hs => ⟨step_of_frame hs fun _ => rfl, step_of_frame hs fun _ => rfl⟩

/-! ### The verdict on a header (R68) -/

theorem selInRange_iff (sel : BitVec 8) : selInRange sel = true ↔ sel.toNat < 5 := by
  simp [selInRange, Nat.lt_succ_iff]

theorem indexInRange_iff (index : BitVec 8) : indexInRange index = true ↔ index.toNat < nTasks := by
  simp [indexInRange]

theorem eq_zero_iff_toNat_lt_one (a : BitVec 8) : a = 0 ↔ a.toNat < 1 := by
  rw [Nat.lt_one_iff, ← BitVec.toNat_inj]
  rfl

/-- The number of values of `a` an operation code admits (R64); none for an unassigned code. -/
def argCount (op : Nat) : Nat :=
  match op with
  | 0x1 | 0x2 => 5
  | 0x7 => nTasks
  | 0x3 | 0x4 | 0x5 | 0x6 | 0x8 | 0x9 | 0xA => 1
  | _ => 0

/-- The cause of a frame whose `a` is not among them (R68). -/
def argError (op : Nat) : DecodeError :=
  match op with
  | 0x1 | 0x2 => .illegalCsr
  | 0x7 => .tableIndexRange
  | _ => .illegalCommand

/-- An argument out of range is refused, whatever operand words follow. -/
theorem decodeOp_of_argCount_le {op : Nat} {a : BitVec 8} (h : argCount op ≤ a.toNat) (ws : List Word) :
    decodeOp op a ws = .error (argError op) := by
  unfold decodeOp
  split
  case h_1 | h_2 => exact if_neg ((selInRange_iff a).not.mpr (Nat.not_lt.mpr h))
  case h_7 => exact if_neg ((indexInRange_iff a).not.mpr (Nat.not_lt.mpr h))
  case h_3 | h_4 | h_5 | h_6 | h_8 | h_9 | h_10 =>
    exact if_neg ((eq_zero_iff_toNat_lt_one a).not.mpr (Nat.not_lt.mpr h))
  case h_11 => simp [argError, *]

/-- With an argument in range, the right number of operand words makes an instruction. -/
theorem decodeOp_of_lt_argCount {op : Nat} {a : BitVec 8} {ws : List Word} (h : a.toNat < argCount op)
    (hw : ws.length = wordsOfOp op) : ∃ i, decodeOp op a ws = .ok i := by
  unfold argCount at h
  split at h
  case h_1 =>
    obtain rfl := List.length_eq_zero_iff.mp hw
    exact ⟨_, if_pos ((selInRange_iff a).mpr h)⟩
  case h_2 =>
    obtain ⟨w, rfl⟩ := List.length_eq_one_iff.mp hw
    exact ⟨_, if_pos ((selInRange_iff a).mpr h)⟩
  case h_3 =>
    obtain ⟨w, rfl⟩ := List.length_eq_one_iff.mp hw
    exact ⟨_, if_pos ((indexInRange_iff a).mpr h)⟩
  case h_4 | h_6 | h_7 | h_9 =>
    obtain rfl := List.length_eq_zero_iff.mp hw
    exact ⟨_, if_pos ((eq_zero_iff_toNat_lt_one a).mpr h)⟩
  case h_5 | h_10 =>
    obtain ⟨w, rfl⟩ := List.length_eq_one_iff.mp hw
    exact ⟨_, if_pos ((eq_zero_iff_toNat_lt_one a).mpr h)⟩
  case h_8 =>
    match ws, hw with
    | [_, _, _, _, _], _ => exact ⟨_, if_pos ((eq_zero_iff_toNat_lt_one a).mpr h)⟩
  case h_11 => cases h

/-- The illegal cause of a header's fields on a port, if they have one (R68). -/
def illegalCause (p : Port) (op a z : Nat) : Option DecodeError :=
  if z ≠ 0 ∨ portOfOp op ≠ p then some .illegalCommand
  else if argCount op ≤ a then some (argError op)
  else none

theorem illegalCause_eq_none {p : Port} {op a z : Nat} :
    illegalCause p op a z = none ↔ z = 0 ∧ portOfOp op = p ∧ a < argCount op := by
  unfold illegalCause
  split
  · next wrong => exact iff_of_false nofun fun ⟨hz, hp, _⟩ => wrong.elim (· hz) (· hp)
  · next accepted =>
    obtain ⟨hz, hp⟩ := not_or.mp accepted
    simp [not_not.mp hz, not_not.mp hp]

theorem illegalCause_ne_notAFrame (p : Port) (op a z : Nat) :
    illegalCause p op a z ≠ some .notAFrame := by
  have argError_ne : argError op ≠ .notAFrame := by
    unfold argError
    split <;> decide
  unfold illegalCause
  split
  · decide
  · split
    · exact fun e => argError_ne (Option.some.inj e)
    · exact nofun

/-- The illegal cause of a header on a port. -/
def headerError (p : Port) (h : Header) : Option DecodeError :=
  illegalCause p (opField h).toNat (aField h).toNat (zField h).toNat

theorem zField_toNat_eq_zero {h : Header} : (zField h).toNat = 0 ↔ zField h = 0 :=
  BitVec.toNat_inj (y := 0#4)

/-- A header with an illegal cause is refused with it, whatever operand words follow. -/
theorem decode_of_headerError {p : Port} {f : Frame} {e : DecodeError}
    (h : headerError p f.header = some e) : decode p f = .error e := by
  unfold headerError illegalCause at h
  simp only [ne_eq, zField_toNat_eq_zero] at h
  unfold decode
  split at h
  · next wrong =>
    cases h
    rcases wrong with hz | hp
    · exact if_pos hz
    · rw [if_pos hp, ite_self]
  · next accepted =>
    obtain ⟨hz, hp⟩ := not_or.mp accepted
    rw [if_neg hz, if_neg hp]
    split at h
    · next ha => cases h; exact decodeOp_of_argCount_le ha _
    · cases h

/-- A header with no illegal cause makes an instruction with the right number of operand words. -/
theorem decode_of_legal {p : Port} {f : Frame} (h : headerError p f.header = none)
    (hw : f.operands.length = wordsOfOp (opField f.header).toNat) : ∃ i, decode p f = .ok i := by
  obtain ⟨hz, hp, ha⟩ := illegalCause_eq_none.mp h
  obtain ⟨i, hi⟩ := decodeOp_of_lt_argCount ha hw
  refine ⟨i, ?_⟩
  rw [decode, if_neg (not_not.mpr (zField_toNat_eq_zero.mp hz)), if_neg (not_not.mpr hp), hi]

/-! ### The rows of the opcode map (R64) -/

theorem header_ext_iff {h g : Header} :
    h = g ↔ opField h = opField g ∧ aField h = aField g ∧ zField h = zField g := by
  refine ⟨by rintro rfl; exact ⟨rfl, rfl, rfl⟩, fun ⟨hop, ha, hz⟩ => BitVec.eq_of_toNat_eq ?_⟩
  rw [← BitVec.toNat_inj, opField_toNat, opField_toNat] at hop
  rw [← BitVec.toNat_inj, aField_toNat, aField_toNat] at ha
  rw [← BitVec.toNat_inj, zField_toNat, zField_toNat] at hz
  have := h.isLt
  have := g.isLt
  omega

/-- Every row asks for `op` and for `z` to be 0, and for `a` to be 0 where its mask looks at `a`. -/
theorem row_masks : ∀ r ∈ opcodeRows,
    opField r.mask = BitVec.allOnes 4 ∧ zField r.mask = BitVec.allOnes 4 ∧ zField r.matchBits = 0 ∧
      aField r.matchBits = 0 ∧ (aField r.mask = 0 ∨ aField r.mask = BitVec.allOnes 8 ∧ r.aCount = 1) := by
  decide

/-- A row selects the headers of its operation code with `z` 0 and `a` in its range: where its mask looks at `a`,
the range holds 0 only. -/
theorem selects_iff {r : OpcodeRow} (hr : r ∈ opcodeRows) (h : Header) : r.selects h = true ↔
    opField h = opField r.matchBits ∧ zField h = 0 ∧ (aField h).toNat < r.aCount := by
  obtain ⟨op_mask, z_mask, z_match, a_match, a_mask⟩ := row_masks r hr
  have fields : h &&& r.mask = r.matchBits ↔
      opField h = opField r.matchBits ∧ aField h &&& aField r.mask = 0 ∧ zField h = 0 := by
    rw [header_ext_iff, a_match, z_match]
    have op_and : opField (h &&& r.mask) = opField h := by
      rw [opField, BitVec.extractLsb'_and, ← opField, ← opField, op_mask, BitVec.and_allOnes]
    have a_and : aField (h &&& r.mask) = aField h &&& aField r.mask := BitVec.extractLsb'_and
    have z_and : zField (h &&& r.mask) = zField h := by
      rw [zField, BitVec.extractLsb'_and, ← zField, ← zField, z_mask, BitVec.and_allOnes]
    rw [op_and, a_and, z_and]
  rw [OpcodeRow.selects, Bool.and_eq_true, beq_iff_eq, decide_eq_true_eq, fields]
  rcases a_mask with a_mask | ⟨a_mask, count⟩
  · simp [a_mask, and_assoc]
  · rw [a_mask, BitVec.and_allOnes, count, eq_zero_iff_toNat_lt_one]
    tauto

/-- A row's range and port are those of its operation code. -/
theorem row_of_op : ∀ r ∈ opcodeRows, r.aCount = argCount (opField r.matchBits).toNat ∧
    r.port = portOfOp (opField r.matchBits).toNat := by
  decide

/-- Every operation code that admits an argument has a row. -/
theorem exists_row_of_op : ∀ op : BitVec 4, 0 < argCount op.toNat →
    ∃ r ∈ opcodeRows, opField r.matchBits = op := by
  decide

/-- The headers that the rows of a port select are those with no illegal cause on it. -/
theorem exists_row_iff (p : Port) (h : Header) :
    (∃ r ∈ opcodeRows, r.selects h = true ∧ r.port = p) ↔ headerError p h = none := by
  rw [headerError, illegalCause_eq_none, zField_toNat_eq_zero]
  constructor
  · rintro ⟨r, hr, selected, rfl⟩
    obtain ⟨hop, hz, ha⟩ := (selects_iff hr h).mp selected
    obtain ⟨count, port⟩ := row_of_op r hr
    rw [hop, ← count, port]
    exact ⟨hz, rfl, ha⟩
  · rintro ⟨hz, hp, ha⟩
    obtain ⟨r, hr, hop⟩ := exists_row_of_op (opField h) (Nat.zero_lt_of_lt ha)
    obtain ⟨count, port⟩ := row_of_op r hr
    rw [hop] at count port
    exact ⟨r, hr, (selects_iff hr h).mpr ⟨hop.symm, hz, count ▸ ha⟩, port.trans hp⟩

/-- Settles O6: a header without an illegal cause is a row's, and any words of the right number complete it. -/
theorem everyHeaderIsARowOrIllegal : Obligations.EveryHeaderIsARowOrIllegal := by
  intro p h
  rw [exists_row_iff]
  cases verdict : headerError p h with
  | none =>
    have words := List.length_replicate (n := wordsOfOp (opField h).toNat) (a := (0 : Word))
    exact .inl ⟨rfl, _, decode_of_legal verdict words⟩
  | some e =>
    have e_ne : e ≠ .notAFrame := fun he => illegalCause_ne_notAFrame _ _ _ _ (he ▸ verdict)
    exact .inr ⟨nofun, e, e_ne, fun _ => decode_of_headerError verdict⟩

theorem row_eq_of_op : ∀ r ∈ opcodeRows, ∀ q ∈ opcodeRows,
    opField r.matchBits = opField q.matchBits → r = q := by
  decide

/-- Settles O7: a row selects headers of its own operation code, and no two rows have the same. -/
theorem opcodeRowsNeverOverlap : Obligations.OpcodeRowsNeverOverlap := by
  intro h r q hr hq selects_r selects_q
  obtain ⟨op_r, -, -⟩ := (selects_iff hr h).mp selects_r
  obtain ⟨op_q, -, -⟩ := (selects_iff hq h).mp selects_q
  exact row_eq_of_op r hr q hq (op_r.symm.trans op_q)

/-! ### Illegal frames (R68) -/

/-- The first, second, third, sixth and seventh causes of R68. -/
def commandCause (p : Port) (op a z : Nat) : Prop :=
  op = 0 ∨ 0xB ≤ op ∨ z ≠ 0 ∨ (a ≠ 0 ∧ op ≠ 1 ∧ op ≠ 2 ∧ op ≠ 7) ∨
    (op = 8 ∧ p = .command) ∨ (op ≠ 8 ∧ p = .trap)

/-- The fourth cause of R68. -/
def csrCause (op a : Nat) : Prop := (op = 1 ∨ op = 2) ∧ 4 < a

/-- The fifth cause of R68. -/
def indexCause (op a : Nat) : Prop := op = 7 ∧ nTasks ≤ a

theorem portOfOp_ne_iff (op : Nat) (p : Port) :
    portOfOp op ≠ p ↔ (op = 8 ∧ p = .command) ∨ (op ≠ 8 ∧ p = .trap) := by
  unfold portOfOp
  cases p <;> simp

/-- An argument out of range is a selector's, an index's, or of an operation code that uses none. -/
theorem argError_cases {op a : Nat} (h : argCount op ≤ a) :
    (csrCause op a ∧ argError op = .illegalCsr) ∨ (indexCause op a ∧ argError op = .tableIndexRange) ∨
      ((∀ p z, commandCause p op a z) ∧ argError op = .illegalCommand) := by
  unfold argCount at h
  split at h
  case h_1 | h_2 => exact .inl ⟨⟨by decide, h⟩, rfl⟩
  case h_3 => exact .inr (.inl ⟨⟨rfl, h⟩, rfl⟩)
  case h_4 | h_5 | h_6 | h_7 | h_8 | h_9 | h_10 =>
    exact .inr (.inr ⟨fun p z => by unfold commandCause; omega, rfl⟩)
  case h_11 =>
    exact .inr (.inr ⟨fun p z => by unfold commandCause; grind, by simp [argError, *]⟩)

theorem argCount_le_of_unused {op a : Nat}
    (h : op = 0 ∨ 0xB ≤ op ∨ (a ≠ 0 ∧ op ≠ 1 ∧ op ≠ 2 ∧ op ≠ 7)) : argCount op ≤ a := by
  unfold argCount
  split <;> omega

theorem illegalCause_of_not_commandCause {p : Port} {op a z : Nat} (h : ¬ commandCause p op a z) :
    illegalCause p op a z = if argCount op ≤ a then some (argError op) else none := by
  simp only [commandCause, ← portOfOp_ne_iff, not_or, not_not] at h
  obtain ⟨-, -, hz, -, hp⟩ := h
  exact if_neg (by simp [hz, hp])

theorem illegalCause_of_commandCause {p : Port} {op a z : Nat} (h : commandCause p op a z)
    (hcsr : ¬ csrCause op a) (hindex : ¬ indexCause op a) :
    illegalCause p op a z = some .illegalCommand := by
  by_cases wrong : z ≠ 0 ∨ portOfOp op ≠ p
  · exact if_pos wrong
  · obtain ⟨hz, hp⟩ := not_or.mp wrong
    have ha : argCount op ≤ a := by
      rw [portOfOp_ne_iff] at hp
      apply argCount_le_of_unused
      unfold commandCause at h
      tauto
    rcases argError_cases ha with ⟨cause, -⟩ | ⟨cause, -⟩ | ⟨-, e⟩
    · exact absurd cause hcsr
    · exact absurd cause hindex
    · rw [illegalCause, if_neg wrong, if_pos ha, e]

theorem illegalCause_of_csrCause {p : Port} {op a z : Nat} (h : csrCause op a)
    (hcommand : ¬ commandCause p op a z) : illegalCause p op a z = some .illegalCsr := by
  rw [illegalCause_of_not_commandCause hcommand]
  obtain ⟨rfl | rfl, ha⟩ := h <;> exact if_pos ha

theorem illegalCause_of_indexCause {p : Port} {op a z : Nat} (h : indexCause op a)
    (hcommand : ¬ commandCause p op a z) : illegalCause p op a z = some .tableIndexRange := by
  rw [illegalCause_of_not_commandCause hcommand]
  obtain ⟨rfl, ha⟩ := h
  exact if_pos ha

theorem illegalCause_of_no_cause {p : Port} {op a z : Nat} (hcommand : ¬ commandCause p op a z)
    (hcsr : ¬ csrCause op a) (hindex : ¬ indexCause op a) : illegalCause p op a z = none := by
  rw [illegalCause_of_not_commandCause hcommand, if_neg]
  intro ha
  rcases argError_cases ha with ⟨cause, -⟩ | ⟨cause, -⟩ | ⟨cause, -⟩
  · exact hcsr cause
  · exact hindex cause
  · exact hcommand (cause p z)

/-- Settles O4: in RUN a header with an illegal cause latches that cause's fault. -/
theorem illegalFrameRaisesItsFault : Obligations.IllegalFrameRaisesItsFault := by
  intro p f s ⟨_, hp⟩ op a z plain csr index
  have verdict : headerError p f.header = illegalCause p op a z := by
    rw [headerError, opField_toNat, aField_toNat, zField_toNat]
  have raises {e m} (fault : faultOfDecode e = some m) (cause : illegalCause p op a z = some e) :
      deliver p f s = .next (latch m s) :=
    deliver_of_error hp (decode_of_headerError (verdict.trans cause)) fault
  exact ⟨fun ⟨hplain, hcsr, hindex⟩ => raises rfl (illegalCause_of_commandCause hplain hcsr hindex),
    fun ⟨hcsr, hplain⟩ => raises rfl (illegalCause_of_csrCause hcsr hplain),
    fun ⟨hindex, hplain⟩ => raises rfl (illegalCause_of_indexCause hindex hplain),
    fun ⟨hplain, hcsr, hindex⟩ hw => decode_of_legal
      (verdict.trans (illegalCause_of_no_cause hplain hcsr hindex)) (opField_toNat _ ▸ hw)⟩

/-! ### The BOOT sequence (R71) -/

/-- In the boot condition TINIT creates its task. -/
theorem exec_tinit_of_boot {s : State} (hs : s.enabled) (hi : s.init = false) (hm : s.mieSet = false)
    (j : Fin nTasks) (entry : Word) :
    exec (.tinit (BitVec.ofNat 8 j.val) entry) s = .next (created j entry s) := by
  have hj : taskOfIndex (BitVec.ofNat 8 j.val) = some j := by
    rw [taskOfIndex_eq_some, BitVec.toNat_ofNat]
    exact Nat.mod_eq_of_lt (Nat.lt_trans j.isLt (by decide))
  obtain ⟨hf, hp⟩ := hs
  rw [exec_of_enabled hf hp]
  simp [opOf, tinitOp, hj, hi, hm, created, respond]

/-- A created task is the only entry of the table that changes. -/
theorem created_tt (j : Fin nTasks) (entry : Word) (s : State) (i : Fin nTasks) :
    (created j entry s).tt[i] = if i = j then createTask s.params j entry s.tt[j] else s.tt[i] := by
  split
  · next h => subst h; exact Vector.getElem_set_self _
  · next h => exact Vector.getElem_set_ne j.isLt i.isLt fun e => h (Fin.ext e.symm)

/-- An ARM whose deadline fits programs it. -/
theorem exec_arm_of_lt {s : State} (hs : s.enabled) {d : U64} (h : s.mtime.toNat + d.toNat < 2 ^ 64) :
    exec (.arm d) s = .next (respond none (writeCompare (s.mtime + d) s)) := by
  obtain ⟨hf, hp⟩ := hs
  rw [exec_of_enabled hf hp, opOf, armOp, armTimer_of_lt h, commit_ok]

theorem exec_ei {s : State} (hs : s.enabled) :
    exec .ei s = .next (respond none (enableInterrupts s)) :=
  exec_of_enabled hs.1 hs.2

/-- The state after the TINIT of every task. -/
def createdAll (entries : Vector Word nTasks) (s : State) : State :=
  created 1 entries[1] (created 0 entries[0] s)

/-- Every task is created from what its own entry held. -/
theorem createdAll_tt (entries : Vector Word nTasks) (s : State) (i : Fin nTasks) :
    (createdAll entries s).tt[i] = createTask s.params i entries[i] s.tt[i] := by
  match i with
  | 0 => rw [createdAll, created_tt, if_neg (by decide), created_tt, if_pos rfl]; rfl
  | 1 => rw [createdAll, created_tt, if_pos rfl, created_tt, if_neg (by decide)]; rfl

/-- The state after the first deadline is programmed as well. -/
def armedAll (entries : Vector Word nTasks) (s : State) : State :=
  respond none (writeCompare (s.mtime + s.params.quantumBoot) (createdAll entries s))

/-- The state the BOOT sequence leaves: every task created, the first deadline programmed, interrupts enabled. -/
def booted (entries : Vector Word nTasks) (s : State) : State :=
  respond none (enableInterrupts (armedAll entries s))

/-- In the boot condition, with a first deadline that fits, no instruction of the BOOT sequence faults. -/
theorem execAll_bootSequence {s : State} (entries : Vector Word nTasks) (hs : s.enabled)
    (hi : s.init = false) (hm : s.mieSet = false)
    (h : s.mtime.toNat + s.params.quantumBoot.toNat < 2 ^ 64) :
    execAll (bootSequence s.params entries) s = some (booted entries s) := by
  have tinit0 := exec_tinit_of_boot hs hi hm 0 entries[0]
  have tinit1 := exec_tinit_of_boot (s := created 0 entries[0] s) hs hi hm 1 entries[1]
  have arm := exec_arm_of_lt (s := createdAll entries s) hs h
  have ei := exec_ei (s := armedAll entries s) hs
  calc execAll (bootSequence s.params entries) s
    _ = execAll [.tinit 1 entries[1], .arm s.params.quantumBoot, .ei] (created 0 entries[0] s) :=
        execAll_cons tinit0 _
    _ = execAll [.arm s.params.quantumBoot, .ei] (createdAll entries s) := execAll_cons tinit1 _
    _ = execAll [.ei] (armedAll entries s) := execAll_cons arm _
    _ = some (booted entries s) := execAll_cons ei _

/-- Setting a bit, bit by bit. -/
theorem getLsbD_setBit_eq_ite {b : Nat} (v : Word) (hb : b < xlen) (i : Nat) :
    (setBit v b).getLsbD i = if i = b then true else v.getLsbD i := by
  split
  · next h => rw [h, getLsbD_setBit_self v hb]
  · next h => exact getLsbD_setBit_of_ne v h

/-- What TINIT keeps of a register file: every register but the stack pointer, and the storage components (R131). -/
theorem createTask_kept (p : Params) (i : Fin nTasks) (entry : Word) (t : Task) :
    (∀ k : Fin nGpr, k ≠ 2 → (createTask p i entry t).rf.gpr[k] = t.rf.gpr[k]) ∧
      sameStorage (createTask p i entry t).rf t.rf :=
  ⟨fun k hk => Vector.getElem_set_ne spIndex.isLt k.isLt fun e => hk (Fin.ext e.symm), rfl, rfl, rfl, rfl⟩

/-- Settles O32: the sequence runs through to `booted`, whose table is the created one. -/
theorem bootSequencePreparesEveryTask : Obligations.BootSequencePreparesEveryTask := by
  intro s entries hs hi hm h
  refine ⟨booted entries s, execAll_bootSequence entries hs hi hm h, rfl,
    BitVec.toNat_add_of_lt h, fun b _ => getLsbD_setBit_eq_ite _ (by decide) b,
    fun b _ => getLsbD_setBit_eq_ite _ (by decide) b, fun i => ?_⟩
  rw [show (booted entries s).tt = (createdAll entries s).tt from rfl, createdAll_tt]
  exact ⟨rfl, rfl, Vector.getElem_set_self _, rfl, createTask_kept s.params i entries[i] s.tt[i]⟩

end Sys2Proof.Machine

/-! PROOFS. 40_hw_access: RDCSR and WRCSR (R80, R81, with R145), the timer reads (R82, R83), WRCMP (R84) and the bit
access primitives (R86). -/

namespace Sys2Proof.Machine

/-! ### The registers by selector (R66, R86) -/

theorem csrOfSel_eq_none {sel : BitVec 8} (h : 4 < sel.toNat) : csrOfSel sel = none := by
  rw [← Option.not_isSome_iff_eq_none, csrOfSel_isSome, selInRange, decide_eq_true_iff]
  omega

/-- Selectors 0 to 2 name the writable registers. -/
theorem csrOfSel_writable {sel : BitVec 8} (h : sel.toNat ≤ 2) :
    ∃ c, csrOfSel sel = some c ∧ csrWritable c = true := by
  unfold csrOfSel
  interval_cases sel.toNat <;> exact ⟨_, rfl, rfl⟩

@[simp] theorem readCsr_respond (c : Csr) (v : Option Word) (s : State) :
    readCsr c (respond v s) = readCsr c s := by
  cases c <;> rfl

/-- Writing back what a register holds changes nothing. -/
theorem writeCsr_readCsr (c : Csr) (s : State) : writeCsr c (readCsr c s) s = s := by
  cases c <;> rfl

/-- A CSR write changes the three read/write registers at most. -/
theorem writeCsr_frame (c : Csr) (v : Word) (s : State) :
    writeCsr c v s = { s with
      mstatus := (writeCsr c v s).mstatus, mie := (writeCsr c v s).mie, mtvec := (writeCsr c v s).mtvec } := by
  cases c <;> rfl

theorem readCsr_writeCsr_self {c : Csr} (h : csrWritable c = true) (v : Word) (s : State) :
    readCsr c (writeCsr c v s) = v := by
  rw [readCsr_writeCsr, if_pos ⟨rfl, h⟩]

theorem readCsr_writeCsr_of_ne {c d : Csr} (h : d ≠ c) (v : Word) (s : State) :
    readCsr d (writeCsr c v s) = readCsr d s := by
  rw [readCsr_writeCsr, if_neg fun e => h e.1]

/-- The clearing side effect as one write: of 0, or of the value held. -/
theorem readClear_eq_writeCsr (c : Csr) (s : State) :
    readClear c s = writeCsr c (if s.params.csrReadClears then 0 else readCsr c s) s := by
  unfold readClear
  split
  · rfl
  · exact (writeCsr_readCsr c s).symm

theorem enabled_respond_writeCsr {c : Csr} {r : Option Word} {v : Word} {s : State} :
    (respond r (writeCsr c v s)).enabled ↔ s.enabled := by
  simp only [State.enabled, State.good, respond_fault, respond_phase, writeCsr_fault, writeCsr_phase]

/-! ### RDCSR, WRCSR and TRAP in an enabled state (R80, R81, R110) -/

theorem enabled_of_exec_next {i : Instr} {s t : State} (h : exec i s = .next t) : s.enabled :=
  have ⟨hf, hp, _⟩ := exec_next h
  ⟨hf, hp⟩

theorem exec_rdcsr {s : State} {sel : BitVec 8} {c : Csr} (hs : s.enabled) (hc : csrOfSel sel = some c) :
    exec (.rdcsr sel) s = .next (respond (some (readCsr c s))
      (writeCsr c (if s.params.csrReadClears then 0 else readCsr c s) s)) := by
  rw [exec_of_enabled hs.1 hs.2, opOf, rdcsrOp, hc, ← readClear_eq_writeCsr]
  rfl

theorem exec_rdcsr_of_clears {s : State} {sel : BitVec 8} {c : Csr} (hs : s.enabled)
    (hc : csrOfSel sel = some c) (hr : s.params.csrReadClears = true) :
    exec (.rdcsr sel) s = .next (respond (some (readCsr c s)) (writeCsr c 0 s)) := by
  rw [exec_rdcsr hs hc, if_pos hr]

theorem exec_rdcsr_of_unknown {s : State} {sel : BitVec 8} (hs : s.enabled) (h : 4 < sel.toNat) :
    exec (.rdcsr sel) s = .next (latch .illegalCsr s) := by
  rw [exec_of_enabled hs.1 hs.2, opOf, rdcsrOp, csrOfSel_eq_none h]
  rfl

theorem exec_wrcsr {s : State} {sel : BitVec 8} {c : Csr} (hs : s.enabled) (hc : csrOfSel sel = some c)
    (hw : csrWritable c = true) (v : Word) :
    exec (.wrcsr sel v) s = .next (respond none (writeCsr c v s)) := by
  rw [exec_of_enabled hs.1 hs.2, opOf, wrcsrOp, hc]
  simp only [hw, if_true, commit_ok]

theorem exec_wrcsr_of_readOnly {s : State} {sel : BitVec 8} {c : Csr} (hs : s.enabled)
    (hc : csrOfSel sel = some c) (hw : csrWritable c = false) (v : Word) :
    exec (.wrcsr sel v) s = .next (latch .readOnlyCsrWrite s) := by
  rw [exec_of_enabled hs.1 hs.2, opOf, wrcsrOp, hc]
  simp only [hw, Bool.false_eq_true, if_false, commit_error]

theorem exec_wrcsr_of_unknown {s : State} {sel : BitVec 8} (hs : s.enabled) (h : 4 < sel.toNat) (v : Word) :
    exec (.wrcsr sel v) s = .next (latch .illegalCsr s) := by
  rw [exec_of_enabled hs.1 hs.2, opOf, wrcsrOp, csrOfSel_eq_none h]
  rfl

/-- Under another vector every TRAP latches its fault, whatever its operands. -/
theorem exec_trap_of_vector_ne {s : State} (hs : s.enabled) (hv : s.mtvec ≠ s.params.trapEntry)
    (a b c d e : Word) : exec (.trap a b c d e) s = .next (latch .trapVectorNotInstalled s) := by
  rw [exec_of_enabled hs.1 hs.2, opOf]
  rcases trapOp_cases a c s with ⟨-, faults⟩ | ⟨installed, -⟩ | ⟨installed, -⟩
  · rw [faults, commit_error]
  · exact absurd installed hv
  · exact absurd installed hv

/-! ### The CSR reads and writes (R80, R81) -/

/-- Settles O14: each selector's register is read, then written with 0 or with what it held. -/
theorem readCsrReturnsAndClears : Obligations.ReadCsrReturnsAndClears := by
  intro s sel hs
  refine ⟨?_, ?_, ?_, ?_, ?_, exec_rdcsr_of_unknown hs⟩
  · rintro rfl; exact exec_rdcsr (c := .mstatus) hs rfl
  · rintro rfl; exact exec_rdcsr (c := .mie) hs rfl
  · rintro rfl; exact exec_rdcsr (c := .mtvec) hs rfl
  · rintro rfl; exact exec_rdcsr (c := .mvendorid) hs rfl
  · rintro rfl; exact exec_rdcsr (c := .marchid) hs rfl

/-- Settles O15: the first read leaves 0 in the register; a 0 in `mtvec` is not the vector, which EI and WRCSR
write. -/
theorem clearingReadUninstallsTheVector : Obligations.ClearingReadUninstallsTheVector := by
  refine fun s t hr => ⟨fun sel hsel h => ?_, fun h hne => ?_⟩
  · obtain ⟨c, hc, hw⟩ := csrOfSel_writable hsel
    have hs := enabled_of_exec_next h
    cases (exec_rdcsr_of_clears hs hc hr).symm.trans h
    refine ⟨_, exec_rdcsr (enabled_respond_writeCsr.mpr hs) hc, ?_⟩
    rw [respond_cmdResp, readCsr_respond, readCsr_writeCsr_self hw]
  · have hs := enabled_of_exec_next h
    cases (exec_rdcsr_of_clears hs rfl hr).symm.trans h
    have ht : State.enabled (respond (some s.mtvec) (writeCsr .mtvec 0 s)) :=
      enabled_respond_writeCsr.mpr hs
    exact ⟨exec_trap_of_vector_ne ht hne.symm, _, _, exec_ei ht, rfl, exec_wrcsr ht rfl rfl _, rfl⟩

/-- Settles O16: what a selector names decides, a writable register, a read-only one or none. -/
theorem writeCsrHoldsTheWholeWord : Obligations.WriteCsrHoldsTheWholeWord := by
  intro s sel v hs
  refine ⟨?_, ?_, ?_, ?_, fun h => exec_wrcsr_of_unknown hs h v⟩
  · rintro rfl; exact exec_wrcsr (c := .mstatus) hs rfl rfl v
  · rintro rfl; exact exec_wrcsr (c := .mie) hs rfl rfl v
  · rintro rfl; exact exec_wrcsr (c := .mtvec) hs rfl rfl v
  · rintro (rfl | rfl)
    · exact exec_wrcsr_of_readOnly (c := .mvendorid) hs rfl rfl v
    · exact exec_wrcsr_of_readOnly (c := .marchid) hs rfl rfl v

/-- A pending interrupt in RUN is takeable when both enable bits are set (R145). -/
theorem takeable_of_pending {s : State} (hp : s.phase = .run) (hm : s.mtip = true) :
    s.takeable = (s.mieSet && s.mtieSet) := by
  rw [State.takeable, hp, hm]
  rfl

/-- Settles O17: the write decides one factor of takeable; a vector other than `TRAP_ENTRY` faults every TRAP. -/
theorem writeCsrAndTheInterrupt : Obligations.WriteCsrAndTheInterrupt := by
  refine fun s t v => ⟨fun h pending other => ?_, fun h pending other => ?_, fun h hne => ?_⟩
  all_goals
    have hs := enabled_of_exec_next h
    cases (exec_wrcsr hs rfl rfl v).symm.trans h
  · calc State.takeable _
      _ = (v.getLsbD 3 && s.mie.getLsbD 7) :=
          takeable_of_pending (s := respond none (writeCsr .mstatus v s)) hs.2 pending
      _ = v.getLsbD 3 := by rw [other, Bool.and_true]
  · calc State.takeable _
      _ = (s.mstatus.getLsbD 3 && v.getLsbD 7) :=
          takeable_of_pending (s := respond none (writeCsr .mie v s)) hs.2 pending
      _ = v.getLsbD 7 := by rw [other, Bool.true_and]
  · exact exec_trap_of_vector_ne hs hne

/-! ### The timer registers (R82 to R84) -/

/-- Settles O18: both reads commit a response and nothing else. -/
theorem timerReadsReturnTheRegister : Obligations.TimerReadsReturnTheRegister :=
  fun _ ⟨hf, hp⟩ => ⟨exec_of_enabled hf hp, exec_of_enabled hf hp⟩

theorem mtip_iff (s : State) : s.mtip = true ↔ s.mtimecmp.toNat ≤ s.mtime.toNat :=
  decide_eq_true_iff

/-- Settles O19: the written word is the compare register that MTIP looks at. -/
theorem writeCompareRearms : Obligations.WriteCompareRearms := by
  have header : headerOf 0xA 0 = 0xA000 := by decide
  refine fun s v ⟨hf, hp⟩ => ⟨congrArg (Frame.mk · [v]) header, _, exec_of_enabled hf hp, rfl, mtip_iff _, ?_⟩
  rintro rfl
  exact (mtip_iff _).trans (BitVec.allOnes_le_iff (x := s.mtime))

/-! ### The bit access primitives (R86) -/

/-- Clearing a bit, bit by bit. -/
theorem getLsbD_clearBit_eq_ite (v : Word) (b i : Nat) :
    (clearBit v b).getLsbD i = if i = b then false else v.getLsbD i := by
  split
  · next h => rw [h, getLsbD_clearBit_self]
  · next h => exact getLsbD_clearBit_of_ne v h

/-- Settles O20: both primitives are one CSR write of a word that differs in the bit. -/
theorem bitAccessKeepsOtherBits : Obligations.BitAccessKeepsOtherBits := by
  intro s c b i hw hb
  refine ⟨?_, ?_, writeCsr_frame c _ s, writeCsr_frame c _ s, fun d hd =>
    ⟨readCsr_writeCsr_of_ne hd _ s, readCsr_writeCsr_of_ne hd _ s⟩⟩
  · rw [csrSetBit, readCsr_writeCsr_self hw, getLsbD_setBit_eq_ite _ hb]
  · rw [csrClearBit, readCsr_writeCsr_self hw, getLsbD_clearBit_eq_ite]

end Sys2Proof.Machine

/-! PROOFS. 41_timer: ARM stores the exact deadline (R90, R91), the Clock counts up to it and no further than the
counter's end (R93), and MTIP rises there (R94). -/

namespace Sys2Proof.Machine

/-! ### ARM (R90, R91) -/

/-- An ARM whose deadline does not fit faults. -/
theorem exec_arm_of_ge {s : State} (hs : s.enabled) {d : U64} (h : 2 ^ 64 ≤ s.mtime.toNat + d.toNat) :
    exec (.arm d) s = .next (latch .armOverflow s) := by
  obtain ⟨hf, hp⟩ := hs
  rw [exec_of_enabled hf hp, opOf, armOp, armTimer_of_ge h, commit_error]

/-- Settles O22: the sum fits or it does not. -/
theorem armStoresTheExactSum : Obligations.ArmStoresTheExactSum :=
  fun _ _ hs => ⟨fun h => ⟨_, exec_arm_of_lt hs h, rfl, BitVec.toNat_add_of_lt h⟩, exec_arm_of_ge hs⟩

/-- An ARM that did not fault left the deadline its offset ahead of the counter. -/
theorem mtimecmp_of_exec_arm {s t : State} {d : U64} (h : exec (.arm d) s = .next t) (hf : t.fault = none) :
    t.mtimecmp.toNat = t.mtime.toNat + d.toNat := by
  have hs := enabled_of_exec_next h
  rcases Nat.lt_or_ge (s.mtime.toNat + d.toNat) (2 ^ 64) with fits | ge
  · cases (exec_arm_of_lt hs fits).symm.trans h
    exact BitVec.toNat_add_of_lt fits
  · cases (exec_arm_of_ge hs ge).symm.trans h
    cases hf

/-! ### The Clock (R93) -/

/-- As long as the counter stays below its end, `n` ticks add `n` to it and change nothing else. -/
theorem afterTicks_of_lt (n : Nat) (s : State) (h : s.mtime.toNat + n < 2 ^ 64) :
    ∃ m, afterTicks n s = some { s with mtime := m } ∧ m.toNat = s.mtime.toNat + n := by
  induction n generalizing s with
  | zero => exact ⟨s.mtime, rfl, rfl⟩
  | succ n ih =>
    rcases tickOp_cases s with ⟨-, sum, e⟩ | ⟨top, -⟩
    · obtain ⟨m, run, hm⟩ := ih { s with mtime := s.mtime + 1 } (by dsimp only; omega)
      exact ⟨m, by rw [afterTicks, e]; exact run, by dsimp only at hm; omega⟩
    · omega

/-- With the deadline `d` ahead of the counter, the interrupt is pending after `n ≤ d` ticks only if `n` is `d`. -/
theorem mtip_afterTicks {s : State} {d n : Nat} (hd : s.mtimecmp.toNat = s.mtime.toNat + d) (hn : n ≤ d) :
    ∃ u, afterTicks n s = some u ∧ u.mtip = decide (d ≤ n) := by
  have bound := s.mtimecmp.isLt
  obtain ⟨m, run, hm⟩ := afterTicks_of_lt n s (by omega)
  refine ⟨_, run, decide_eq_decide.mpr ?_⟩
  rw [hd, hm]
  exact Nat.add_le_add_iff_left

/-- Settles O23: ARM leaves the deadline `d` ahead, and the ticks count towards it one by one. -/
theorem armFiresAfterExactlyItsOffset : Obligations.ArmFiresAfterExactlyItsOffset := by
  intro s t d h hf
  have hd := mtimecmp_of_exec_arm h hf
  refine ⟨fun n hn => ?_, ?_⟩
  · rw [← decide_eq_false (Nat.not_le.mpr hn)]
    exact mtip_afterTicks hd hn.le
  · rw [← decide_eq_true d.toNat.le_refl]
    exact mtip_afterTicks hd d.toNat.le_refl

/-- Settles O24: the tick is the one turn that looks at no phase. -/
theorem tickAddsOneOrFaults : Obligations.TickAddsOneOrFaults := by
  intro s rest hf ht
  rw [step_of_turn hf ht, runTurn]
  rcases tickOp_cases { s with turns := rest } with ⟨fits, sum, e⟩ | ⟨top, e⟩
  · rw [e, commit_ok]
    exact ⟨fun _ => ⟨_, rfl, rfl, sum⟩, fun top => absurd top fits.ne⟩
  · rw [e, commit_error]
    exact ⟨fun fits => absurd top fits.ne, fun _ => rfl⟩

end Sys2Proof.Machine

/-! PROOFS. 42_interrupt_control: EI (R100) and DI (R101), the enable bits and the interrupt they unmask or mask
(60_exceptions R145), and the traps they do not mask (R146). -/

namespace Sys2Proof.Machine

/-! ### EI (R100) -/

theorem setBit_setBit (v : Word) (b : Nat) : setBit (setBit v b) b = setBit v b := by
  rw [setBit, setBit, BitVec.or_assoc, BitVec.or_self]

theorem enableInterrupts_idem (s : State) : enableInterrupts (enableInterrupts s) = enableInterrupts s := by
  simp only [enableInterrupts, csrSetBit, writeCsr, readCsr, setBit_setBit]

/-- With both enable bits set the interrupt is takeable in RUN exactly when it is pending. -/
theorem takeable_enableInterrupts {s : State} (hp : s.phase = .run) :
    (enableInterrupts s).takeable = s.mtip := by
  have mie : (enableInterrupts s).mieSet = true := getLsbD_setBit_self _ (by decide)
  have mtie : (enableInterrupts s).mtieSet = true := getLsbD_setBit_self _ (by decide)
  have mtip : (enableInterrupts s).mtip = s.mtip := rfl
  simp [State.takeable, mtip, mie, mtie, hp]

/-- Settles O27: EI sets bits that it would find set the second time. -/
theorem enableSetsBitsAndVector : Obligations.EnableSetsBitsAndVector := by
  have header : encode .ei = ⟨0x5000, []⟩ := by decide
  refine fun s hs => ⟨header, _, exec_ei hs, rfl, fun b _ => getLsbD_setBit_eq_ite _ (by decide) b,
    fun b _ => getLsbD_setBit_eq_ite _ (by decide) b, ?_,
    takeable_enableInterrupts (s := s) hs.2⟩
  calc exec .ei (respond none (enableInterrupts s))
    _ = .next (respond none (enableInterrupts (enableInterrupts s))) := exec_ei hs
    _ = .next (respond none (enableInterrupts s)) := by rw [enableInterrupts_idem]

/-! ### DI (R101) -/

theorem exec_di {s : State} (hs : s.enabled) :
    exec .di s = .next (respond none (disableInterrupts s)) :=
  exec_of_enabled hs.1 hs.2

/-- With `mstatus.MIE` clear no interrupt is takeable, pending or not. -/
theorem takeable_of_mieSet_eq_false {s : State} (h : s.mieSet = false) : s.takeable = false := by
  rw [State.takeable, h, Bool.and_false, Bool.false_and]

/-- Under the installed vector a trap with a non-timer cause takes the fatal path, whatever the enable bits are. -/
theorem exec_trap_of_nonTimer {s : State} (hs : s.enabled) (hv : s.mtvec = s.params.trapEntry) {cause : Word}
    (hc : cause.toNat % 512 ≠ 7) (epc tval hartid mstatusArg : Word) :
    exec (.trap epc tval cause hartid mstatusArg) s =
      .next (enterFatal epc (disableInterrupts (capture s))) := by
  have nonTimer : isTimerCause cause = false := Bool.eq_false_iff.mpr (mt (isTimerCause_iff cause).mp hc)
  rw [exec_of_enabled hs.1 hs.2, opOf, trapOp_eq, if_neg (not_not.mpr hv), if_pos nonTimer, commit_ok]

/-- Settles O28: DI leaves the block enabled, with the deadline and the vector as they were, so EI and TRAP in its
state are those of any enabled state. -/
theorem disableClearsBits : Obligations.DisableClearsBits := by
  have header : encode .di = ⟨0x6000, []⟩ := by decide
  intro s hs
  have ht : State.enabled (respond none (disableInterrupts s)) := hs
  exact ⟨header, _, exec_di hs, rfl, fun b _ => getLsbD_clearBit_eq_ite _ _ b,
    fun b _ => getLsbD_clearBit_eq_ite _ _ b, rfl, takeable_of_mieSet_eq_false (getLsbD_clearBit_self _ _),
    ⟨_, exec_ei ht, takeable_enableInterrupts (s := respond none (disableInterrupts s)) ht.2⟩,
    fun hv a b c d e hc => ⟨_, exec_trap_of_nonTimer ht hv hc a b d e, rfl⟩⟩

end Sys2Proof.Machine

/-! PROOFS. 43_trap: the cause word (R113, R114), the operands no stage uses (R126), the capture (R111), what each
outcome of TRAP is (R110, R115 to R125), and what follows for runs: the rotation, the contexts that come back and the
storage components (R127). -/

namespace Sys2Proof.Machine

/-! ### The cause word (R113, R114) -/

/-- Settles O33: 512 is `2 ^ 9`. -/
theorem timerCauseIsLowNineBits : Obligations.TimerCauseIsLowNineBits :=
  isTimerCause_iff

/-- Cause words equal in their low nine bits are timer causes alike. -/
theorem isTimerCause_congr {cause cause' : Word} (h : cause.toNat % 512 = cause'.toNat % 512) :
    isTimerCause cause = isTimerCause cause' := by
  rw [Bool.eq_iff_iff, isTimerCause_iff, isTimerCause_iff, h]

/-- Settles O34: TRAP asks nothing of the cause but whether it is a timer cause. -/
theorem highCauseBitsPlayNoPart : Obligations.HighCauseBitsPlayNoPart := by
  refine ⟨fun s epc tval hartid m cause cause' h => ?_, by decide⟩
  have same_op : trapOp epc cause = trapOp epc cause' :=
    funext fun s => by rw [trapOp_eq, trapOp_eq, isTimerCause_congr h]
  exact congrArg (perform · s) same_op

/-! ### The operands no stage uses (R126) -/

/-- A header on the trap port makes its five operand words a TRAP, whatever they are, or is illegal with them. -/
theorem decode_fiveWords (h : Header) :
    (∀ w0 w1 w2 w3 w4, decode .trap ⟨h, [w0, w1, w2, w3, w4]⟩ = .ok (.trap w0 w1 w2 w3 w4)) ∨
      ∃ e, ∀ w0 w1 w2 w3 w4, decode .trap ⟨h, [w0, w1, w2, w3, w4]⟩ = .error e := by
  cases verdict : headerError .trap h with
  | some e => exact .inr ⟨e, fun _ _ _ _ _ => decode_of_headerError verdict⟩
  | none =>
    obtain ⟨hz, hp, ha⟩ := illegalCause_eq_none.mp verdict
    have hop : (opField h).toNat = 8 :=
      Classical.byContradiction fun ne => (portOfOp_ne_iff _ _).mpr (.inr ⟨ne, rfl⟩) hp
    rw [hop] at ha
    refine .inl fun w0 w1 w2 w3 w4 => ?_
    rw [decode, if_neg (not_not.mpr (zField_toNat_eq_zero.mp hz)), if_neg (not_not.mpr hp), hop]
    exact if_pos ((eq_zero_iff_toNat_lt_one _).mpr ha)

/-- Two turns that do the same in every state make the same step. -/
theorem step_congr_turn {u v : Turn} (h : ∀ t, runTurn u t = runTurn v t) (s : State) (rest : List Turn) :
    step { s with turns := u :: rest } = step { s with turns := v :: rest } := by
  unfold step
  dsimp only
  split
  · rfl
  · exact h _

/-- A frame of five words on the trap port does the same with other words W1, W3 and W4. -/
theorem runTurn_trapFrame_congr (h : Header) (w0 w1 w2 w3 w4 v1 v3 v4 : Word) (s : State) :
    runTurn (.trapFrame ⟨h, [w0, w1, w2, w3, w4]⟩) s = runTurn (.trapFrame ⟨h, [w0, v1, w2, v3, v4]⟩) s := by
  simp only [runTurn, deliver]
  rcases decode_fiveWords h with legal | ⟨e, illegal⟩
  · rw [legal, legal]
    rfl
  · rw [illegal, illegal]

/-- Taking a turn does not change whether the interrupt is takeable. -/
theorem takeTurn_takeable (s : State) : (takeTurn s).takeable = s.takeable := by
  rw [takeTurn_eq]
  rfl

/-- Settles O35: TRAP drops the three words, and the sequencer's turn is taken in a state with the same `mstatus`. -/
theorem unusedTrapArgumentsChangeNothing : Obligations.UnusedTrapArgumentsChangeNothing := by
  refine ⟨fun s rest h w0 w1 w2 w3 w4 v1 v3 v4 => ⟨?_, ?_⟩, fun s hf ht hu => ?_⟩
  · exact step_congr_turn (runTurn_trapFrame_congr h w0 w1 w2 w3 w4 v1 v3 v4) s rest
  · exact step_congr_turn (fun _ => rfl) s rest
  · have carried := congrArg (Instr.trap (takeTurn s).pc 0 timerCauseWord (takeTurn s).params.hartid)
      (takeTurn_mstatus s)
    refine ⟨takeTurn s, _, _, _, _, carried, ?_, rfl, takeTurn_mstatus s⟩
    rw [step_of_good hf, hu, runTurn, sequencerTurn, if_pos (takeTurn_takeable s ▸ ht)]

/-! ### The capture (R111) -/

/-- Settles O41: the captured registers are the ones the hart port shows. -/
theorem captureTakesTheLiveRegisters : Obligations.CaptureTakesTheLiveRegisters := by
  intro s k
  refine ⟨?_, ⟨rfl, rfl, rfl, rfl⟩, rfl⟩
  rw [capture_snap, readAllX_get]
  split
  · next h => rw [h, readX_zero]
  · next h => exact readX_of_ne s h

/-! ### A timer trap that completes (R115 to R123) -/

/-- A timer trap in this state completes: it is enabled, the vector is installed and the next deadline fits. -/
structure State.timerReady (s : State) : Prop where
  enabled : s.enabled
  vector : s.mtvec = s.params.trapEntry
  fits : s.mtime.toNat + s.params.quantumSteady.toNat < 2 ^ 64

/-- Under the installed vector a timer trap resumes a task, or faults where the deadline does not fit. -/
theorem exec_trap_of_timer {s : State} (hs : s.enabled) (hv : s.mtvec = s.params.trapEntry) {cause : Word}
    (hc : cause.toNat % 512 = 7) (epc tval hartid m : Word) :
    exec (.trap epc tval cause hartid m) s = .next
      (if s.mtime.toNat + s.params.quantumSteady.toNat < 2 ^ 64 then resumed epc s
        else latch .armOverflow s) := by
  have timer : ¬ isTimerCause cause = false := by simp [(isTimerCause_iff cause).mpr hc]
  rw [exec_of_enabled hs.1 hs.2, opOf, trapOp_eq, if_neg (not_not.mpr hv), if_neg timer]
  split <;> rfl

theorem exec_trap_of_timerReady {s : State} (h : s.timerReady) {cause : Word} (hc : cause.toNat % 512 = 7)
    (epc tval hartid m : Word) : exec (.trap epc tval cause hartid m) s = .next (resumed epc s) := by
  rw [exec_trap_of_timer h.enabled h.vector hc, if_pos h.fits]

/-- A timer trap that completed found the state ready. -/
theorem timerReady_of_exec_next {s t : State} {epc tval cause hartid m : Word}
    (h : exec (.trap epc tval cause hartid m) s = .next t) (hc : cause.toNat % 512 = 7) (hf : t.fault = none) :
    s.timerReady := by
  have hs := enabled_of_exec_next h
  have vector : s.mtvec = s.params.trapEntry := by
    by_contra hv
    cases (exec_trap_of_vector_ne hs hv ..).symm.trans h
    cases hf
  refine ⟨hs, vector, ?_⟩
  by_contra full
  rw [exec_trap_of_timer hs vector hc, if_neg full] at h
  cases h
  cases hf

/-- A timer trap leaves the state ready for another: it moves neither the counter nor the vector. -/
theorem resumed_timerReady {s : State} (h : s.timerReady) (epc : Word) : (resumed epc s).timerReady :=
  ⟨h.enabled, rfl, h.fits⟩

/-- Under the installed vector, all a timer trap changes. -/
theorem resumed_frame {s : State} (hv : s.mtvec = s.params.trapEntry) (epc : Word) :
    resumed epc s = { s with
      tt := (resumed epc s).tt, cur := (resumed epc s).cur, init := true,
      snap := (resumed epc s).tt[(resumed epc s).cur].rf, mstatus := (resumed epc s).mstatus,
      mie := (resumed epc s).mie, mtimecmp := (resumed epc s).mtimecmp, x := (resumed epc s).x,
      pc := (resumed epc s).tt[(resumed epc s).cur].pc,
      trapResp := some (resumed epc s).tt[(resumed epc s).cur].pc } := by
  rw [hv]; rfl

/-- Clearing then setting a bit, bit by bit. -/
theorem getLsbD_setBit_clearBit {b : Nat} (v : Word) (hb : b < xlen) (i : Nat) :
    (setBit (clearBit v b) b).getLsbD i = if i = b then true else v.getLsbD i := by
  rw [setBit_clearBit v hb, getLsbD_setBit_eq_ite v hb]

/-- Stage 2 clears the two enable bits, and the return sets them: every other bit is kept. -/
theorem resumed_enables (epc : Word) (s : State) :
    (∀ b, b < 64 → (resumed epc s).mstatus.getLsbD b = if b = 3 then true else s.mstatus.getLsbD b) ∧
      ∀ b, b < 64 → (resumed epc s).mie.getLsbD b = if b = 7 then true else s.mie.getLsbD b :=
  ⟨fun b _ => getLsbD_setBit_clearBit _ (by decide) b, fun b _ => getLsbD_setBit_clearBit _ (by decide) b⟩

/-- The hart gets the registers of the loaded snapshot; the write to `x[0]` is discarded. -/
theorem resumed_restores (epc : Word) (s : State) :
    (resumed epc s).x[0] = s.x[0] ∧
      ∀ k : Fin nGpr, readX (resumed epc s) k = if k = 0 then 0 else (resumed epc s).snap.gpr[k] :=
  ⟨Vector.getElem_set_self _, readX_writeAllX (resumed epc s).snap.gpr s⟩

/-- The next deadline is a quantum ahead of the counter. -/
theorem resumed_deadline {s : State} (h : s.timerReady) (epc : Word) :
    (resumed epc s).mtimecmp.toNat = s.mtime.toNat + s.params.quantumSteady.toNat :=
  BitVec.toNat_add_of_lt h.fits

/-- The current entry with the interrupted context saved in it: the live registers and `epc`. -/
def savedTask (epc : Word) (s : State) : Task :=
  { s.tt[s.cur] with pc := epc, rf := { s.snap with gpr := readAllX s } }

theorem savedTable_of_init {s : State} (h : s.init = true) (epc : Word) :
    savedTable epc s = s.tt.set s.cur (savedTask epc s) :=
  if_pos h

theorem savedTable_of_not_init {s : State} (h : s.init = false) (epc : Word) : savedTable epc s = s.tt :=
  if_neg (Bool.eq_false_iff.mp h)

/-- After the first one, a timer trap saves the interrupted context in the current entry. -/
theorem savedTable_cur {s : State} (h : s.init = true) (epc : Word) :
    (savedTable epc s)[s.cur] = savedTask epc s := by
  rw [savedTable_of_init h]
  exact Vector.getElem_set_self _

/-- The save keeps every entry but the current one. -/
theorem savedTable_of_ne {s : State} {j : Fin nTasks} (hj : j ≠ s.cur) (epc : Word) :
    (savedTable epc s)[j] = s.tt[j] :=
  Classical.byContradiction fun changed => hj (eq_cur_of_savedTable_ne changed).2

theorem rotatedCursor_of_init {s : State} (h : s.init = true) : rotatedCursor s = nextCursor s.cur :=
  if_pos (by rw [h]; rfl)

theorem rotatedCursor_of_not_init {s : State} (h : s.init = false) :
    (rotatedCursor s).val = if s.params.bootAdvance then (s.cur.val + 1) % nTasks else s.cur.val := by
  rw [rotatedCursor, h, Bool.false_or]
  split <;> rfl

/-- Settles O37: `resumed` with the context saved and the cursor one place on. -/
theorem timerTrapSwitchesTheTask : Obligations.TimerTrapSwitchesTheTask := by
  intro s epc tval cause hartid m hs hv hc hi fits
  have ready : s.timerReady := ⟨hs, hv, fits⟩
  have cursor : rotatedCursor s = nextCursor s.cur := rotatedCursor_of_init hi
  obtain ⟨mstatus, mie⟩ := resumed_enables epc s
  refine ⟨resumed epc s, exec_trap_of_timerReady ready hc .., ?_, savedTable_cur hi epc,
    fun j hj => savedTable_of_ne hj epc, congrArg Fin.val cursor, rfl, resumed_deadline ready epc,
    mstatus, mie, resumed_restores epc s⟩
  exact (resumed_frame hv epc).trans (by rw [hi]; rfl)

/-- Settles O38: `resumed` with the table as it was. -/
theorem bootstrapTrapSavesNothing : Obligations.BootstrapTrapSavesNothing := by
  intro s epc tval cause hartid m hs hv hc hi fits
  have ready : s.timerReady := ⟨hs, hv, fits⟩
  have table : (resumed epc s).tt = s.tt := savedTable_of_not_init hi epc
  have frame := resumed_frame hv epc
  have loaded : (resumed epc s).snap = (resumed epc s).tt[(resumed epc s).cur].rf := rfl
  obtain ⟨mstatus, mie⟩ := resumed_enables epc s
  obtain ⟨zero, restored⟩ := resumed_restores epc s
  rw [table] at frame loaded
  rw [loaded] at restored
  exact ⟨resumed epc s, exec_trap_of_timerReady ready hc .., frame, rotatedCursor_of_not_init hi,
    resumed_deadline ready epc, mstatus, mie, zero, restored⟩

/-- Settles O39: the deadline fits or it does not; where it fits it is later than now. -/
theorem rearmClearsOrFaults : Obligations.RearmClearsOrFaults := by
  intro s epc tval cause hartid m hs hv hc
  refine ⟨fun full => ?_, fun fits => ?_⟩
  · rw [exec_trap_of_timer hs hv hc, if_neg (Nat.not_lt.mpr full)]
    rfl
  · have ready : s.timerReady := ⟨hs, hv, fits⟩
    have deadline := resumed_deadline ready epc
    refine ⟨_, exec_trap_of_timerReady ready hc .., deadline, fun quantum => ?_⟩
    rw [Bool.eq_false_iff, ne_eq, mtip_iff, deadline]
    exact Nat.not_le.mpr (Nat.lt_add_of_pos_right quantum)

/-! ### The fatal path and the vector's fault (R110, R124, R125) -/

/-- Settles O40: the fatal path after capture and disable. -/
theorem otherCausesAreFatal : Obligations.OtherCausesAreFatal := by
  intro s epc tval cause hartid m hs hv hc
  exact ⟨_, exec_trap_of_nonTimer hs hv hc .., rfl, fun b _ => getLsbD_clearBit_eq_ite _ _ b,
    fun b _ => getLsbD_clearBit_eq_ite _ _ b⟩

/-- Settles O36: under the installed vector a TRAP completes or latches the deadline's fault. -/
theorem trapNeedsTheInstalledVector : Obligations.TrapNeedsTheInstalledVector := by
  intro s epc tval cause hartid m hs
  refine ⟨fun h hv => ?_, fun hv => exec_trap_of_vector_ne hs hv ..⟩
  have latched {t : State} (e : exec (.trap epc tval cause hartid m) s = .next t) :
      t.fault = some .trapVectorNotInstalled := by
    cases e.symm.trans h
    rfl
  by_cases hc : cause.toNat % 512 = 7
  · have h := latched (exec_trap_of_timer hs hv hc epc tval hartid m)
    split at h
    · cases hs.1.symm.trans h
    · cases h
  · have h := latched (exec_trap_of_nonTimer hs hv hc epc tval hartid m)
    cases hs.1.symm.trans h

/-! ### The rotation (R127 a) -/

/-- Every timer trap resumes a task from a state that is ready for it. -/
theorem exec_timerTrap {i : Instr} {s : State} (hi : isTimerTrap i) (h : s.timerReady) :
    ∃ epc, exec i s = .next (resumed epc s) := by
  cases i with
  | trap epc tval cause hartid m => exact ⟨epc, exec_trap_of_timerReady h hi ..⟩
  | rdcsr | wrcsr | rdtime | arm | ei | di | tinit | rdcmp | wrcmp => exact hi.elim

/-- After the first timer trap, each further one moves the cursor one place on. -/
theorem execAll_timerTraps {l : List Instr} (hl : ∀ i ∈ l, isTimerTrap i) {s : State} (hs : s.timerReady)
    (hi : s.init = true) :
    ∃ t, execAll l s = some t ∧ t.fault = none ∧ t.init = true ∧
      t.cur.val = (s.cur.val + l.length) % nTasks := by
  induction l generalizing s with
  | nil => exact ⟨s, rfl, hs.enabled.1, hi, (Nat.mod_eq_of_lt s.cur.isLt).symm⟩
  | cons i rest ih =>
    obtain ⟨first, others⟩ := List.forall_mem_cons.mp hl
    obtain ⟨epc, e⟩ := exec_timerTrap first hs
    obtain ⟨t, run, fault, init, cur⟩ := ih others (resumed_timerReady hs epc) rfl
    refine ⟨t, (execAll_cons e rest).trans run, fault, init, ?_⟩
    rw [cur, show (resumed epc s).cur = nextCursor s.cur from rotatedCursor_of_init hi, nextCursor,
      List.length_cons, Nat.mod_add_mod]
    congr 1
    omega

/-- Settles O42: the first trap sets the flag, and moves the cursor only under `BOOT_ADVANCE`; each of the others
moves it by one place. -/
theorem timerTrapsRotateCyclically : Obligations.TimerTrapsRotateCyclically := by
  intro l s hs hv hi fits hne hl
  obtain ⟨i, rest, rfl⟩ := List.exists_cons_of_ne_nil hne
  obtain ⟨first, others⟩ := List.forall_mem_cons.mp hl
  have ready : s.timerReady := ⟨hs, hv, fits⟩
  obtain ⟨epc, e⟩ := exec_timerTrap first ready
  obtain ⟨t, run, fault, init, cur⟩ := execAll_timerTraps others (resumed_timerReady ready epc) rfl
  refine ⟨t, (execAll_cons e rest).trans run, fault, init, ?_⟩
  rw [cur, show (resumed epc s).cur = rotatedCursor s from rfl, rotatedCursor_of_not_init hi, List.length_cons]
  split
  · rw [Nat.mod_add_mod]
    congr 1
    omega
  · congr 1

/-! ### The contexts that come back (R127 b) -/

/-- After the first timer trap a step keeps the entry of every task but the current one. -/
theorem step_keeps_waiting_task {s t : State} {j : Fin nTasks} (h : step s = .next t) (hi : s.init = true)
    (hj : s.cur ≠ j) : t.tt[j] = s.tt[j] := by
  by_contra changed
  rcases taskTableWriters s t j h changed with ⟨-, e, -⟩ | ⟨e, -⟩
  · exact hj e.symm
  · exact absurd (hi.symm.trans e) (by decide)

/-- No step clears the flag. -/
theorem step_keeps_init {s t : State} (h : step s = .next t) (hi : s.init = true) : t.init = true := by
  by_contra cleared
  obtain ⟨-, set, -⟩ := onlyTimerTrapsScheduleTasks s t h (.inr fun e => cleared (e.trans hi))
  exact cleared set

/-- A waiting task's entry stays as it is while other tasks are current. -/
theorem reaches_keeps_waiting_task {n : Nat} {j : Fin nTasks} {t u : State} (hi : t.init = true)
    (h : reaches (fun v => v.cur ≠ j) n t u) : u.init = true ∧ u.tt[j] = t.tt[j] := by
  refine reaches_keeps (Q := fun v => v.init = true ∧ v.tt[j] = t.tt[j]) ?_ n t u h ⟨hi, rfl⟩
  intro v v' waiting ⟨booted, kept⟩ e
  exact ⟨step_keeps_init e booted, (step_keeps_waiting_task e booted waiting).trans kept⟩

/-- With two tasks or more the next one is another. -/
theorem nextCursor_ne (c : Fin nTasks) : nextCursor c ≠ c := by
  revert c; decide

/-- Settles O43: the entry the first trap saved is the one the second loads: no step between writes it, and the second
saves into another. -/
theorem savedContextComesBack : Obligations.SavedContextComesBack := by
  intro n s t u w epc tval cause hartid m epc' tval' cause' hartid' m' hi hc hc' ht htf run hw hwf hcur
  cases (exec_trap_of_timerReady (timerReady_of_exec_next ht hc htf) hc ..).symm.trans ht
  cases (exec_trap_of_timerReady (timerReady_of_exec_next hw hc' hwf) hc' ..).symm.trans hw
  obtain ⟨booted, kept⟩ := reaches_keeps_waiting_task rfl run
  have other : s.cur ≠ u.cur := fun same =>
    nextCursor_ne u.cur ((rotatedCursor_of_init booted).symm.trans (hcur.trans same))
  have loaded : (savedTable epc' u)[rotatedCursor u] = savedTask epc s :=
    calc (savedTable epc' u)[rotatedCursor u]
      _ = (savedTable epc' u)[s.cur] := congrArg (fun c : Fin nTasks => (savedTable epc' u)[c]) hcur
      _ = u.tt[s.cur] := savedTable_of_ne other epc'
      _ = (savedTable epc s)[s.cur] := kept
      _ = savedTask epc s := savedTable_cur hi epc
  have loaded_rf : (resumed epc' u).snap = (savedTask epc s).rf := congrArg Task.rf loaded
  have loaded_pc : (resumed epc' u).pc = epc := congrArg Task.pc loaded
  refine ⟨fun k => ?_, loaded_pc, congrArg some loaded_pc⟩
  rw [(resumed_restores epc' u).2 k, loaded_rf]
  split
  · next h => rw [h, readX_zero]
  · rfl

/-! ### The storage components (R127 d) -/

theorem sameStorage_refl (a : RegisterFile) : sameStorage a a := ⟨rfl, rfl, rfl, rfl⟩

/-- The save writes the storage components of the snapshot, which are those of the current entry. -/
theorem savedTable_sameStorage {s : State} (owner : s.init = true → sameStorage s.snap s.tt[s.cur].rf)
    (epc : Word) (i : Fin nTasks) : sameStorage (savedTable epc s)[i].rf s.tt[i].rf := by
  by_cases h : (savedTable epc s)[i] = s.tt[i]
  · rw [h]; exact sameStorage_refl _
  · obtain ⟨hi, rfl⟩ := eq_cur_of_savedTable_ne h
    rw [savedTable_cur hi]
    exact owner hi

/-- A TINIT keeps the storage components of the entry it writes, and every other entry. -/
theorem created_sameStorage (j : Fin nTasks) (entry : Word) (s : State) (i : Fin nTasks) :
    sameStorage (created j entry s).tt[i].rf s.tt[i].rf := by
  rw [created_tt]
  split
  · next h => subst h; exact (createTask_kept _ _ _ _).2
  · exact sameStorage_refl _

/-- Every effect of a turn keeps the storage components of every task. -/
theorem TurnEffect.keeps_storage {u : Turn} {s t : State} (e : TurnEffect u s t) (h : s.Inv) (i : Fin nTasks) :
    sameStorage t.tt[i].rf s.tt[i].rf := by
  cases e with
  | create _ entry j => exact created_sameStorage j entry s i
  | resume _ epc => exact savedTable_sameStorage h.snapOwner epc i
  | pass | tick | fault | hartRun | registers | fatal => exact sameStorage_refl _

/-- Settles O44: the invariant's snapshot belongs to the entry the save writes. -/
theorem storageComponentsNeverChange : Obligations.StorageComponentsNeverChange := by
  intro s t h e i
  have kept := (step_effect e).keeps_storage (takeTurn_inv h) i
  rwa [takeTurn_tt] at kept

end Sys2Proof.Machine

/-! PROOFS. 44_boot: what TINIT writes and keeps (R131), the boot condition it asks for (R133), and the default initial
stack pointer (R132). -/

namespace Sys2Proof.Machine

/-! ### TINIT (R131, R133) -/

/-- In the boot condition TINIT creates the task its index names. -/
theorem exec_tinit_of_index {s : State} {index : BitVec 8} {i : Fin nTasks} (hs : s.enabled)
    (hi : s.init = false) (hm : s.mieSet = false) (h : index.toNat = i.val) (entry : Word) :
    exec (.tinit index entry) s = .next (created i entry s) := by
  rw [← exec_tinit_of_boot hs hi hm i entry, ← h, BitVec.ofNat_toNat, BitVec.setWidth_eq]

/-- With boot over, TINIT of an index of the table faults. -/
theorem exec_tinit_of_booted {s : State} {index : BitVec 8} (hs : s.enabled) (h : index.toNat < nTasks)
    (late : s.init = true ∨ s.mieSet = true) (entry : Word) :
    exec (.tinit index entry) s = .next (latch .tableWriteAfterBoot s) := by
  have named : taskOfIndex index = some ⟨index.toNat, h⟩ := taskOfIndex_eq_some.mpr rfl
  rw [exec_of_enabled hs.1 hs.2, opOf, tinitOp, named]
  simp only [(Bool.or_eq_true _ _).mpr late, if_true, commit_error]

/-- Outside the table TINIT faults, before it asks for the boot condition. -/
theorem exec_tinit_of_outOfRange {s : State} {index : BitVec 8} (hs : s.enabled) (h : nTasks ≤ index.toNat)
    (entry : Word) : exec (.tinit index entry) s = .next (latch .tableIndexRange s) := by
  rw [exec_of_enabled hs.1 hs.2, opOf, tinitOp, taskOfIndex_eq_none.mpr h, commit_error]

/-- Settles O29: in the boot condition TINIT answers `created`, whose table differs in one entry. -/
theorem taskCreationWritesFourComponents : Obligations.TaskCreationWritesFourComponents := by
  intro s index entry i hs hi hm h
  refine ⟨created i entry s, exec_tinit_of_index hs hi hm h entry, rfl, ?_⟩
  have task : (created i entry s).tt[i] = createTask s.params i entry s.tt[i] :=
    (created_tt i entry s i).trans (if_pos rfl)
  have others : ∀ j : Fin nTasks, j ≠ i → (created i entry s).tt[j] = s.tt[j] :=
    fun j hj => (created_tt i entry s j).trans (if_neg hj)
  obtain ⟨registers, storage⟩ := createTask_kept s.params i entry s.tt[i]
  rw [task]
  exact ⟨rfl, rfl, rfl, Vector.getElem_set_self _, registers, storage, others⟩

/-- Settles O30: past boot the write faults, in the boot condition it is `created`, outside the table the index
faults. -/
theorem taskCreationOnlyBeforeBootEnds : Obligations.TaskCreationOnlyBeforeBootEnds := by
  intro s index entry hs
  exact ⟨fun h late => exec_tinit_of_booted hs h late entry,
    fun h hi hm => ⟨_, exec_tinit_of_index (i := ⟨index.toNat, h⟩) hs hi hm rfl entry, hs.1⟩,
    fun h => exec_tinit_of_outOfRange hs h entry⟩

/-! ### The initial stack pointer (R132) -/

/-- The default initial stack pointer is the integer difference, taken as a word. -/
theorem spInitDefault_eq_intCast (stackTop stackSize : Word) (i : Fin nTasks) :
    spInitDefault stackTop stackSize i =
      (((stackTop.toNat : Int) - ((i.val : Int) + 1) * (stackSize.toNat : Int) : Int) : Word) := by
  simp [spInitDefault, BitVec.ofNat_add]

/-- Settles O31: the default is the word of an integer, and that word's number is the integer modulo `2^64`. -/
theorem defaultStackPointer : Obligations.DefaultStackPointer := by
  intro p i h
  have default_value : spInit p i = spInitDefault p.stackTop p.stackSize i := by rw [spInit, h]
  rw [default_value, spInitDefault_eq_intCast, BitVec.toNat_intCast,
    Int.toNat_of_nonneg (Int.emod_nonneg _ (by decide))]

end Sys2Proof.Machine

/-! PROOFS. 60_exceptions: which operation raises which model fault (R160), when the timer interrupt is takeable and
what the sequencer then starts (R144, R145), the hart's own traps (R146), and a passed deadline is held (R163). -/

namespace Sys2Proof.Machine

/-! ### The faults of each operation (R160) -/

/-- A fault latched by an instruction is the one its operation raised. -/
theorem opOf_eq_error_of_exec_next {i : Instr} {s t : State} {f : ModelFault} (h : exec i s = .next t)
    (hf : t.fault = some f) : opOf i s = .error f := by
  obtain ⟨hs, -, ⟨g, raised, rfl⟩ | ok⟩ := exec_outcomes h
  · rw [latch_fault] at hf
    cases hf
    exact raised
  · rw [opOf_fault ok, hs] at hf
    cases hf

theorem rdcsrOp_eq_error {sel : BitVec 8} {s : State} {f : ModelFault} (h : rdcsrOp sel s = .error f) :
    f = .illegalCsr := by
  unfold rdcsrOp at h
  split at h <;> cases h
  rfl

theorem wrcsrOp_eq_error {sel : BitVec 8} {v : Word} {s : State} {f : ModelFault}
    (h : wrcsrOp sel v s = .error f) : f = .illegalCsr ∨ f = .readOnlyCsrWrite := by
  unfold wrcsrOp at h
  split at h
  · cases h
    exact .inl rfl
  · split at h <;> cases h
    exact .inr rfl

theorem armOp_eq_error {d : U64} {s : State} {f : ModelFault} (h : armOp d s = .error f) :
    f = .armOverflow := by
  rcases armTimer_cases d s with ⟨-, e⟩ | ⟨-, e⟩ <;> rw [armOp, e] at h <;> cases h
  rfl

theorem tinitOp_eq_error {index : BitVec 8} {entry : Word} {s : State} {f : ModelFault}
    (h : tinitOp index entry s = .error f) : f = .tableIndexRange ∨ f = .tableWriteAfterBoot := by
  unfold tinitOp at h
  split at h
  · cases h
    exact .inl rfl
  · split at h <;> cases h
    exact .inr rfl

theorem trapOp_eq_error {epc cause : Word} {s : State} {f : ModelFault} (h : trapOp epc cause s = .error f) :
    f = .trapVectorNotInstalled ∨ f = .armOverflow := by
  rcases trapOp_outcomes epc cause s with ⟨-, e⟩ | ⟨-, -, e⟩ | ⟨-, -, -, e⟩ | ⟨-, -, -, e⟩ <;>
    cases e.symm.trans h
  · exact .inl rfl
  · exact .inr rfl

/-- Settles O11: the latched fault is the operation's own, and each operation raises its own only. -/
theorem onlyItsOwnFaults : Obligations.OnlyItsOwnFaults := by
  intro i s t f h hf
  have raised := opOf_eq_error_of_exec_next h hf
  cases i with
  | rdcsr => exact rdcsrOp_eq_error raised
  | wrcsr => exact wrcsrOp_eq_error raised
  | arm => exact armOp_eq_error raised
  | tinit => exact tinitOp_eq_error raised
  | trap => exact trapOp_eq_error raised
  | rdtime | ei | di | rdcmp | wrcmp => cases raised

/-! ### The pending and the takeable interrupt (R145, R163) -/

/-- The four conditions of R145. -/
theorem takeable_iff (s : State) : s.takeable = true ↔
    s.phase = .run ∧ s.mtip = true ∧ s.mieSet = true ∧ s.mtieSet = true := by
  simp only [State.takeable, Bool.and_eq_true, decide_eq_true_eq, and_assoc]

/-- Settles O26: the counter does not go back, so it stays past a compare register that is kept. -/
theorem passedDeadlineIsHeld : Obligations.PassedDeadlineIsHeld := by
  intro s t h pending kept
  have later : s.mtime.toNat ≤ t.mtime.toNat := (counterIsMonotone s t h).1
  have held : t.mtip = true := by
    rw [mtip_iff] at pending ⊢
    exact kept ▸ pending.trans later
  exact ⟨held, fun run mie mtie => (takeable_iff t).mpr ⟨run, held, mie, mtie⟩⟩

/-! ### The sequencer's turn (R144) -/

/-- The sequencer's step where the interrupt is takeable. -/
theorem step_of_timer_of_takeable {s : State} {rest : List Turn} (hf : s.good)
    (hu : s.turns = .timer :: rest) (ht : s.takeable = true) :
    step s = exec (timerTrap s) { s with turns := rest } :=
  (step_of_turn hf hu).trans (if_pos ht)

/-- The sequencer's step where it is not. -/
theorem step_of_timer_of_not_takeable {s : State} {rest : List Turn} (hf : s.good)
    (hu : s.turns = .timer :: rest) (ht : s.takeable = false) :
    step s = .next { s with turns := rest } :=
  (step_of_turn hf hu).trans (if_neg (Bool.eq_false_iff.mp ht))

/-- The five words of R144. -/
theorem timerTrap_eq (s : State) :
    timerTrap s = .trap s.pc 0 0x8000000000000007 s.params.hartid s.mstatus := by
  have cause : timerCauseWord = 0x8000000000000007 := by decide
  rw [timerTrap, cause]

/-- Settles O45: the vector is none of the four conditions, and TRAP faults under another. -/
theorem takeableExactlyWhen : Obligations.TakeableExactlyWhen := by
  intro s
  refine ⟨?_, fun rest hf hu ht hv => ?_⟩
  · rw [takeable_iff, mtip_iff]
    rfl
  · have run : s.phase = .run := ((takeable_iff s).mp ht).1
    rw [step_of_timer_of_takeable hf hu ht]
    exact exec_trap_of_vector_ne (s := { s with turns := rest }) ⟨hf, run⟩ hv ..

/-- Settles O46: taking the turn changes no word of the trap. -/
theorem sequencerTakesTheInterrupt : Obligations.SequencerTakesTheInterrupt := by
  refine ⟨timerTrap_eq, fun s rest hf hu => ⟨fun ht => ?_, step_of_timer_of_not_takeable hf hu⟩⟩
  have taken := step_of_timer_of_takeable hf hu ht
  exact ⟨taken, timerTrap_eq s ▸ taken⟩

/-! ### The hart's traps (R146) -/

/-- In RUN a trap the hart raises is a TRAP at its own pc. -/
theorem step_of_hartTrap {s : State} {rest : List Turn} {tval cause hartid m : Word} (hs : s.enabled)
    (hu : s.turns = .hartTrap tval cause hartid m :: rest) :
    step s = exec (.trap s.pc tval cause hartid m) { s with turns := rest } := by
  rw [step_of_turn hs.1 hu]
  simp only [runTurn, hartRaises, hs.2]

/-- Settles O47: the step is TRAP, whose outcomes ask for the vector, the cause and the deadline only. -/
theorem hartTrapsAreNotMasked : Obligations.HartTrapsAreNotMasked := by
  intro s rest tval cause hartid m hs hu
  have hs' : State.enabled { s with turns := rest } := hs
  rw [step_of_hartTrap hs hu]
  refine ⟨rfl, fun hv => exec_trap_of_vector_ne hs' hv .., fun hv => ⟨fun hc fits => ?_, fun hc full => ?_,
    fun hc => ?_⟩⟩
  · exact ⟨_, exec_trap_of_timerReady ⟨hs', hv, fits⟩ hc .., hs.1, hs.2, rfl, rfl⟩
  · rw [exec_trap_of_timer hs' hv hc, if_neg (Nat.not_lt.mpr full)]
    rfl
  · exact ⟨_, exec_trap_of_nonTimer hs' hv hc .., hs.1, rfl, rfl⟩

end Sys2Proof.Machine

/-! PROOFS. 70_reset_and_hazards: after a timer trap or an ARM the interrupt is not takeable before its deadline
(R185). -/

namespace Sys2Proof.Machine

/-! ### Who rewrites the compare register -/

/-- Only ARM, WRCMP and TRAP write the compare register. -/
theorem opOf_mtimecmp {i : Instr} {s t : State} (h : opOf i s = .ok t) (harm : ∀ d, i ≠ .arm d)
    (hwrcmp : ∀ d, i ≠ .wrcmp d) (htrap : ∀ a b c d e, i ≠ .trap a b c d e) : t.mtimecmp = s.mtimecmp := by
  cases i with
  | rdcsr sel =>
    simp only [opOf, rdcsrOp] at h
    split at h <;> cases h
    rw [readClear_eq_writeCsr, respond_mtimecmp, writeCsr_mtimecmp]
  | wrcsr sel v =>
    simp only [opOf, wrcsrOp] at h
    split at h
    · cases h
    · split at h <;> cases h
      rw [respond_mtimecmp, writeCsr_mtimecmp]
  | tinit index entry =>
    obtain ⟨_, -, -, -, rfl⟩ := tinitOp_ok h
    rfl
  | arm d => exact absurd rfl (harm d)
  | wrcmp d => exact absurd rfl (hwrcmp d)
  | trap a b c d e => exact absurd rfl (htrap a b c d e)
  | rdtime | ei | di | rdcmp => cases h; rfl

/-- A frame on the command port that is neither ARM nor WRCMP keeps the compare register: TRAP is not accepted there
(30_encoding R64). -/
theorem deliver_command_mtimecmp {f : Frame} {s t : State} (h : deliver .command f s = .next t)
    (keeps : keepsDeadline (.command f)) : t.mtimecmp = s.mtimecmp := by
  rcases deliver_next h with ⟨-, rfl⟩ | ⟨-, m, rfl⟩ | ⟨-, i, decoded, e⟩
  · rfl
  · rfl
  · obtain ⟨-, -, ⟨m, -, rfl⟩ | ok⟩ := exec_outcomes e
    · rfl
    · refine opOf_mtimecmp ok (fun d hd => (keeps d).1 (hd ▸ decoded)) (fun d hd => (keeps d).2 (hd ▸ decoded))
        fun _ _ _ _ _ hi => ?_
      subst hi
      cases (decodedFrameIsItsEncoding _ _ _ decoded).2.1

/-- A frame on the trap port that is no instruction keeps the compare register. -/
theorem deliver_trap_mtimecmp {f : Frame} {s t : State} (h : deliver .trap f s = .next t)
    (keeps : keepsDeadline (.trapFrame f)) : t.mtimecmp = s.mtimecmp := by
  rcases deliver_next h with ⟨-, rfl⟩ | ⟨-, m, rfl⟩ | ⟨-, i, decoded, -⟩
  · rfl
  · rfl
  · exact absurd decoded (keeps i)

/-- Where the hart raises no trap and no command rewrites it, only the sequencer rewrites the compare register, and
only once its deadline has passed. -/
theorem runTurn_keeps_mtimecmp {u : Turn} {s t : State} (h : runTurn u s = .next t) (keeps : keepsDeadline u) :
    t.mtimecmp = s.mtimecmp ∨ s.mtip = true := by
  cases u with
  | command f => exact .inl (deliver_command_mtimecmp h keeps)
  | trapFrame f => exact .inl (deliver_trap_mtimecmp h keeps)
  | hartTrap => exact keeps.elim
  | hartRun x pc =>
    simp only [runTurn, hartRuns] at h
    split at h <;> cases h <;> exact .inl rfl
  | timer =>
    simp only [runTurn, sequencerTurn] at h
    split at h
    · next takeable => exact .inr ((takeable_iff s).mp takeable).2.1
    · cases h
      exact .inl rfl
  | tick =>
    cases h
    rcases tickOp_cases s with ⟨-, -, e⟩ | ⟨-, e⟩ <;> rw [e] <;> exact .inl rfl

/-- The same of a step, which takes its turn first. -/
theorem step_keeps_mtimecmp {s t : State} (h : step s = .next t) (keeps : keepsDeadline (nextTurn s)) :
    t.mtimecmp = s.mtimecmp ∨ s.mtip = true := by
  have kept := runTurn_keeps_mtimecmp (step_next h).2 keeps
  rwa [mtip_iff, takeTurn_mtimecmp, takeTurn_mtime, ← mtip_iff] at kept

/-! ### The deadline as an invariant -/

/-- The counter has reached `d`, or the compare register asks for `d` or later: the interrupt is not pending before the
counter reaches `d` (41_timer R94). -/
def State.pendingFrom (d : Nat) (s : State) : Prop :=
  d ≤ s.mtime.toNat ∨ d ≤ s.mtimecmp.toNat

/-- In such a state a pending interrupt shows that the counter has reached `d`. -/
theorem State.pendingFrom.le_mtime {d : Nat} {s : State} (h : s.pendingFrom d) (pending : s.mtip = true) :
    d ≤ s.mtime.toNat :=
  h.elim id fun ahead => ahead.trans ((mtip_iff s).mp pending)

/-- A step of the allowed kind keeps the deadline: it keeps the compare register or it finds the deadline passed, and
the counter never goes back. -/
theorem State.pendingFrom.step {d : Nat} {s t : State} (h : s.pendingFrom d) (keeps : keepsDeadline (nextTurn s))
    (e : step s = .next t) : t.pendingFrom d := by
  have later : s.mtime.toNat ≤ t.mtime.toNat := (counterIsMonotone s t e).1
  rcases step_keeps_mtimecmp e keeps with same | pending
  · exact h.imp (·.trans later) (same ▸ ·)
  · exact .inl ((h.le_mtime pending).trans later)

/-- After a run of allowed steps the interrupt is takeable only where the counter has reached the deadline. -/
theorem State.pendingFrom.le_mtime_of_reaches {d n : Nat} {t u : State} (h : t.pendingFrom d)
    (run : reaches (fun v => keepsDeadline (nextTurn v)) n t u) (takeable : u.takeable = true) :
    d ≤ u.mtime.toNat := by
  have kept : u.pendingFrom d :=
    reaches_keeps (fun _ _ keeps held e => State.pendingFrom.step held keeps e) n t u run h
  exact kept.le_mtime ((takeable_iff u).mp takeable).2.1

/-- ARM does not move the counter. -/
theorem mtime_of_exec_arm {s t : State} {d : U64} (h : exec (.arm d) s = .next t) : t.mtime = s.mtime := by
  obtain ⟨-, -, ⟨m, -, rfl⟩ | ok⟩ := exec_outcomes h
  · rfl
  · exact (congrArg State.mtime (opOf_frame ok (by simp)) :)

/-- Settles O49: a timer trap and an ARM that complete leave the exact sum in the compare register, and every allowed
step keeps that deadline. -/
theorem taskRunsItsQuantum : Obligations.TaskRunsItsQuantum := by
  intro n s t u hf run takeable
  refine ⟨fun epc tval cause hartid m h hc => ?_, fun d h => ?_⟩
  · have ready := timerReady_of_exec_next h hc hf
    cases (exec_trap_of_timerReady ready hc ..).symm.trans h
    exact State.pendingFrom.le_mtime_of_reaches (.inr (resumed_deadline ready epc).ge) run takeable
  · have deadline := mtimecmp_of_exec_arm h hf
    rw [mtime_of_exec_arm h] at deadline
    exact State.pendingFrom.le_mtime_of_reaches (.inr deadline.ge) run takeable

end Sys2Proof.Machine

/-! PROOFS. 30_encoding: the cause of a frame that is illegal for two fault names (R68), and the sample frames of
95_test_vectors section 2.1. 70_reset_and_hazards: the draw of `State.reset` (R36). -/

namespace Sys2Proof.Machine

/-- A header whose `z` field is not 0, or whose operation code belongs to the other port, has IllegalCommand as its
cause, whatever its argument: the argument is looked at last. -/
theorem headerError_of_wrong_z_or_port {p : Port} {h : Header}
    (wrong : (zField h).toNat ≠ 0 ∨ portOfOp (opField h).toNat ≠ p) : headerError p h = some .illegalCommand :=
  if_pos wrong

/-- Settles O5: `z` and the port are looked at before the argument, and none of RDCSR, WRCSR and TINIT belongs to the
trap port. -/
theorem overlappingCausesRaiseIllegalCommand : Obligations.OverlappingCausesRaiseIllegalCommand := by
  intro p f s ⟨_, hp⟩ op a z outOfRange overlap
  have not_trap : op ≠ 8 := by omega
  have wrong : z ≠ 0 ∨ portOfOp op ≠ p :=
    overlap.imp_right fun onTrap => (portOfOp_ne_iff op p).mpr (.inr ⟨not_trap, onTrap⟩)
  have verdict : headerError p f.header = some .illegalCommand :=
    headerError_of_wrong_z_or_port (by rwa [zField_toNat, opField_toNat])
  exact deliver_of_error hp (decode_of_headerError verdict) rfl

/-- Settles O8: five of the frames are the encodings of legal instructions, and the headers of the other three have
an illegal cause. -/
theorem decodeOfSampleFrames : Obligations.DecodeOfSampleFrames :=
  ⟨decodeOfEncode (.rdcsr 4) rfl, decodeOfEncode (.wrcsr 2 0x1234) rfl, decodeOfEncode (.arm 0x2000) rfl,
    decodeOfEncode (.tinit 1 0x80002000) rfl,
    decodeOfEncode (.trap 0x80000040 0 0x8000000000000007 0 8) rfl,
    decode_of_headerError rfl, decode_of_headerError rfl, decode_of_headerError rfl⟩

/-- Settles O58: every value drawn is the one `State.reset` names. -/
theorem resetIsTheZeroDraw : Obligations.ResetIsTheZeroDraw :=
  resetWith_resetParams_zero.symm

end Sys2Proof.Machine
